-- ==== Sys2Proof/Word.lean ====
section
/-! DEFINITION. The widths of the YSC1 keystream core: words, bytes, command words, window offsets, word arrays. -/

namespace Sys2Proof

/-- R1: every state word, counter, key word, nonce word and keystream word is an unsigned 64-bit value. -/
abbrev Word := BitVec 64

/-- R9: one byte of a key, nonce, data or keystream byte string. -/
abbrev Byte := BitVec 8

/-- R90: every command word is exactly 32 bits. -/
abbrev CmdWord := BitVec 32

/-- R60: a byte offset in the 1 KiB register window, 0 to 0x3FF. -/
abbrev Offset := BitVec 10

/-- R1: the permutation state holds exactly 16 words (1024 bits). -/
abbrev Block := Vector Word 16

/-- R1: a keystream block is 8 words (512 bits, 64 bytes). -/
abbrev KeyBlock := Vector Word 8

end Sys2Proof
end

