-- ==== Sys2Proof/Syntax.lean ====
section
/-! DEFINITION. The nine commands of YSC1-CMD revision 1 (30_encoding.md R92), one constructor per row of the opcode table. -/

namespace Sys2Proof

/-- A command with its operand bits (R91). Every other operand is a register, not part of the word (R95). -/
inductive Instr
  /-- R210, format N, OPC 0x00. -/
  | nop
  /-- R140, format V, OPC 0x01: the two VAR bits [9:8] (R93). -/
  | init (var : BitVec 2)
  /-- R160, format X, OPC 0x02: the xor flag, bit 8 (R94). -/
  | gen (x : Bool)
  /-- R166, format N, OPC 0x03. -/
  | seek
  /-- R211, format N, OPC 0x04. -/
  | zeroize
  /-- R212, format C, OPC 0x10: the round count, bits [31:16] (R95). -/
  | tperm (cnt : BitVec 16)
  /-- R213, format N, OPC 0x11. -/
  | tqmix
  /-- R214, format N, OPC 0x12. -/
  | tdperm
  /-- R215, format N, OPC 0x13. -/
  | tf
deriving DecidableEq, Repr

end Sys2Proof
end

