-- ==== Sys2Proof/WellFormed.lean ====
section
/-! DEFINITION. Which terms of Instr are commands of the command set (30_encoding.md R93, R96). -/

namespace Sys2Proof

/-- R93, R96: VAR 0b10 and 0b11 are reserved; every other operand value is a command (R94, R95). -/
def Instr.wellFormed : Instr → Bool
  | .nop => true
  | .init var => var == 0b00#2 || var == 0b01#2
  | .gen _ => true
  | .seek => true
  | .zeroize => true
  | .tperm _ => true
  | .tqmix => true
  | .tdperm => true
  | .tf => true

end Sys2Proof
end

