-- ==== Sys2Proof/Decode.lean ====
section
/-! DEFINITION. The decoder of command words, total and rejecting by name, and after it the encoder (30_encoding.md R90 to R99). -/

namespace Sys2Proof

/-- Why a word is illegal (R96, R97), or why bytes are no word. Each is the spec's one outcome Illegal. -/
inductive Illegal
  /-- R97: OPC is unassigned (0x05 to 0x0F, 0x14 to 0xFF). -/
  | unassignedOpc
  /-- R96: a reserved-zero bit of the word's format is 1. -/
  | reservedBit
  /-- R96: VAR is 0b10 or 0b11. -/
  | reservedVar
  /-- R90: fewer than four bytes are no command word. -/
  | tooShort
deriving DecidableEq, Repr

/-- R90: OPC, bits [7:0]. -/
def opcField (c : CmdWord) : Byte := c.extractLsb' 0 8

/-- R90: ARG, bits [15:8]. -/
def argField (c : CmdWord) : Byte := c.extractLsb' 8 8

/-- R90, R95: CNT, bits [31:16]. -/
def cntField (c : CmdWord) : BitVec 16 := c.extractLsb' 16 16

/-- R93: VAR, bits [9:8]. -/
def varField (c : CmdWord) : BitVec 2 := c.extractLsb' 8 2

/-- R94: X, bit 8. -/
def xField (c : CmdWord) : Bool := c.getLsbD 8

/-- R91, format N: bits [31:8] are reserved-zero. -/
def decodeN (c : CmdWord) (i : Instr) : Except Illegal Instr :=
  if c.extractLsb' 8 24 = 0#24 then .ok i else .error .reservedBit

/-- R91, R93, format V: bits [31:10] are reserved-zero, and VAR is 0b00 or 0b01. -/
def decodeV (c : CmdWord) : Except Illegal Instr :=
  if c.extractLsb' 10 22 ≠ 0#22 then .error .reservedBit
  else if c.getLsbD 9 then .error .reservedVar
  else .ok (.init (varField c))

/-- R91, R94, format X: bits [31:9] are reserved-zero. -/
def decodeX (c : CmdWord) : Except Illegal Instr :=
  if c.extractLsb' 9 23 = 0#23 then .ok (.gen (xField c)) else .error .reservedBit

/-- R91, R95, format C: bits [15:8] are reserved-zero. -/
def decodeC (c : CmdWord) : Except Illegal Instr :=
  if argField c = 0#8 then .ok (.tperm (cntField c)) else .error .reservedBit

/-- R98: the decoder, a total function on 32-bit words and the single point where a word gets a meaning. -/
def decode (c : CmdWord) : Except Illegal Instr :=
  if opcField c = 0x00#8 then decodeN c .nop
  else if opcField c = 0x01#8 then decodeV c
  else if opcField c = 0x02#8 then decodeX c
  else if opcField c = 0x03#8 then decodeN c .seek
  else if opcField c = 0x04#8 then decodeN c .zeroize
  else if opcField c = 0x10#8 then decodeC c
  else if opcField c = 0x11#8 then decodeN c .tqmix
  else if opcField c = 0x12#8 then decodeN c .tdperm
  else if opcField c = 0x13#8 then decodeN c .tf
  else .error .unassignedOpc

/-- R62, R90: the command word at CMD bytes 0x018 to 0x01B, lowest address first, little-endian. -/
def wordOfBytes (b0 b1 b2 b3 : Byte) : CmdWord := b3 ++ b2 ++ b1 ++ b0

/-- R62: the four bytes of a command word, lowest address first. -/
def bytesOfWord (c : CmdWord) : List Byte :=
  [c.extractLsb' 0 8, c.extractLsb' 8 8, c.extractLsb' 16 8, c.extractLsb' 24 8]

/-- R90, R98: the decoder on bytes: one length, four bytes, with the rest of the list given back. -/
def decodeBytes : List Byte → Except Illegal (Instr × List Byte)
  | b0 :: b1 :: b2 :: b3 :: rest => (decode (wordOfBytes b0 b1 b2 b3)).map fun i => (i, rest)
  | _ => .error .tooShort

/-- The opcode table's numbering: the low `nbits` bits of `w` as a command word, the bits above them 0 (R90: one 32-bit word). -/
def tableWord (nbits w : Nat) : CmdWord := BitVec.ofNat 32 (w % 2 ^ nbits)

/-- What the decoder reads from a table row's word, laid out as the window stores it. -/
def decodeTableWord (nbits w : Nat) : Option Instr :=
  match decodeBytes (bytesOfWord (tableWord nbits w)) with
  | .ok (i, _) => some i
  | .error _ => none

/-- R92: the OPC value of each command. -/
def Instr.opc : Instr → Byte
  | .nop => 0x00#8
  | .init _ => 0x01#8
  | .gen _ => 0x02#8
  | .seek => 0x03#8
  | .zeroize => 0x04#8
  | .tperm _ => 0x10#8
  | .tqmix => 0x11#8
  | .tdperm => 0x12#8
  | .tf => 0x13#8

/-- R91: the operand bits of each command, in place, above OPC. -/
def Instr.operandBits : Instr → CmdWord
  | .init var => var.setWidth 32 <<< 8
  | .gen x => (BitVec.ofBool x).setWidth 32 <<< 8
  | .tperm cnt => cnt.setWidth 32 <<< 16
  | .nop => 0#32
  | .seek => 0#32
  | .zeroize => 0#32
  | .tqmix => 0#32
  | .tdperm => 0#32
  | .tf => 0#32

/-- R91, R92, R101: the word of a command. -/
def encode (i : Instr) : CmdWord := i.operandBits ||| i.opc.setWidth 32

end Sys2Proof
end

