-- ==== Sys2Proof/Config.lean ====
section
/-! DEFINITION. What an implementation fixes and the spec leaves open (00_scope.md R4, 92_eei_decisions.md P1 to P5). -/

namespace Sys2Proof

/-- R4, P2, P3: the build of the vector datapath. `VEC_PRESENT` and `VEC_LANES` are one choice of three: VEC_LANES is 2 or 4
exactly when VEC_PRESENT = 1, else 0. -/
inductive Build
  /-- VEC_PRESENT = 0, VEC_LANES = 0: the scalar datapath alone. -/
  | scalarOnly
  /-- VEC_PRESENT = 1, VEC_LANES = 2. -/
  | lanes2
  /-- VEC_PRESENT = 1, VEC_LANES = 4. -/
  | lanes4
deriving DecidableEq, Repr, Inhabited

/-- R64, P5: the platform's error response to an access that is not legal. What it holds is the platform's choice. -/
structure BusErr where
  /-- The platform's name for its response. -/
  code : Nat
deriving DecidableEq, Repr, Inhabited

/-- R273: everything a command's latency may depend on, and nothing else. -/
structure LatKey where
  /-- The opcode. -/
  opc : Byte
  /-- The VAR field for INIT, STATUS.VARIANT for GEN, 0 for every other command. -/
  variant : BitVec 2
  /-- The CNT field for TPERM, 0 for every other command. -/
  cnt : BitVec 16
  /-- The datapath bit b. -/
  backend : Bool
deriving DecidableEq, Repr, Inhabited

/-- The build of this core. Free (R4): a statement holds for every build. -/
opaque Config.build : Build

/-- R4, P1: BASE is a multiple of 0x400; this is BASE / 0x400. Free. -/
opaque Config.baseBlock : Nat

/-- R4, P5: BUSERR. Free. -/
opaque Config.busErr : BusErr

/-- R4, P4, R272: LAT of a command less 1, so that LAT is at least 1. Free: the spec gives no number (R280). -/
opaque Config.latencyLessOne : LatKey → Nat

/-- R60: the base address of the register window in the host's address space. -/
def Config.base : Nat := 0x400 * Config.baseBlock

end Sys2Proof
end

