-- ==== Sys2Proof/Machine/State.lean ====
section
/-! DEFINITION. The state of the core (10_state.md R20 to R42), the host's moves beside it, the ways a step can stop, and the state after reset. -/

namespace Sys2Proof.Machine

/-- R2, R5: exactly two variants exist. -/
inductive Variant
  /-- "512", VAR code 0b00. -/
  | v512
  /-- "1024", VAR code 0b01. -/
  | v1024
deriving DecidableEq, Repr

/-- R231: the values ERRCODE ever holds; 0x06 to 0xFF are never written. -/
inductive ErrCode
  /-- 0x00: after reset, or after ERR is cleared. -/
  | none
  /-- 0x01 ILLEGAL_CMD (R234). -/
  | illegalCmd
  /-- 0x02 BUSY (R238). -/
  | busy
  /-- 0x03 NOT_READY (R235). -/
  | notReady
  /-- 0x04 SIZE_MISMATCH (R237). -/
  | sizeMismatch
  /-- 0x05 CTR_EXHAUSTED (R236), the fatal error. -/
  | ctrExhausted
deriving DecidableEq, Repr

/-- R30: the fields of STATUS but BUSY, which is `State.busy`: PENDING is valid exactly while BUSY = 1 (R36), so it has one home.
Reserved bits are RAZ/WI and hold nothing. -/
structure Status where
  /-- Bit 1: a cipher instance exists (R41). -/
  ready : Bool
  /-- Bit 2. -/
  done : Bool
  /-- Bit 3. -/
  err : Bool
  /-- Bit 4: counter exhaustion; cleared only by reset (R236). -/
  fatal : Bool
  /-- Bit 5: the instance's cached backend token (R190). -/
  token : Bool
  /-- Bits [7:6]: the instance's variant. -/
  variant : Variant
  /-- Bits [15:8]: the code of the most recent error. -/
  errCode : ErrCode
deriving DecidableEq, Repr

/-- R36: the command in flight. -/
structure Pending where
  /-- Its 32-bit command word. -/
  word : CmdWord
  /-- The backend bit b sampled at issue. -/
  backend : Bool
deriving DecidableEq, Repr

/-- R282: one move of the host, the one agent that drives the core. The model's own type. -/
inductive HostOp
  /-- `MemRead(BASE + off, size)` (R66). Any size may be tried; R63 says which are legal. -/
  | read (off : Offset) (size : Nat)
  /-- `MemWrite(BASE + off, size, v)` (R67). A 4-byte write carries v[31:0]. -/
  | write (off : Offset) (size : Nat) (v : Word)
  /-- R102 `wait`: read STATUS, and again while BUSY = 1. -/
  | wait
  /-- Assert the reset input (R260). -/
  | reset
deriving DecidableEq, Repr

/-- What the bus gives back to the host (R66, R64, R281). The model's own type. -/
inductive Response
  /-- The data of a legal read. -/
  | data (v : Word)
  /-- BusError on a read: the platform's response, and the data, 0 (R64). -/
  | readError (e : BusErr) (v : Word)
  /-- BusError on a write (R64). -/
  | writeError (e : BusErr)
deriving DecidableEq, Repr

/-- R270, R74: which of the two agents moves. The model's own type. -/
inductive Turn
  /-- The host makes its next move. -/
  | host
  /-- The sequencer completes the command in flight, if there is one. -/
  | core
deriving DecidableEq, Repr

/-- R20: the state of the core, one field per line; the last three fields are the model's own. -/
structure State where
  /-- STATE[0..15] (R21). -/
  state : Block
  /-- CTR, the block counter (R23). -/
  ctr : Word
  /-- KEY[0..15], write-only (R24). -/
  key : Block
  /-- NONCE[0..7], write-only (R25). -/
  nonce : KeyBlock
  /-- DATA_IN[0..7] (R26). -/
  dataIn : KeyBlock
  /-- ID, a constant that no event writes (R27). -/
  id : Word
  /-- CAP, a constant of the build that no event writes (R28): the build itself, since its other bits are fixed. -/
  cap : Build
  /-- CTRL[2:0]: IE_ERR, IE_DONE, FORCE_SCALAR (R29). -/
  ctrl : BitVec 3
  /-- STATUS (R30) but BUSY. -/
  status : Status
  /-- KEY_LEN[15:0] (R31). -/
  keyLen : BitVec 16
  /-- NONCE_LEN[15:0] (R31). -/
  nonceLen : BitVec 16
  /-- SEEK_POS (R32). -/
  seekPos : Word
  /-- KS_OUT[0..7] (R33). -/
  ksOut : KeyBlock
  /-- TEST[0..15] (R35). -/
  test : Block
  /-- PENDING (R36): none is invalid. -/
  pending : Option Pending
  /-- The host's moves still to come, oldest first. The model's own field (notes/assumptions/2.md). -/
  host : List HostOp
  /-- Who moves at the next steps, next first. The model's own field (notes/assumptions/1.md). -/
  turns : List Turn
  /-- What the bus gave back so far, newest first. The model's own field (notes/assumptions/2.md). -/
  responses : List Response
deriving DecidableEq, Repr

/-- Why the machine stops with a fault. -/
inductive Fault
  /-- Raised by the completion of a command in flight whose word `decode` rejects. No run reaches such a state: PENDING is
  written only with a word that decode accepted (R232). Safe: the machine stops where the spec has no such state. -/
  | pendingIllegal
deriving DecidableEq, Repr

/-- Why an instruction has no meaning. -/
inductive Refusal
  /-- Raised only by an arm of exec whose instruction has no meaning yet; no arm is left so. Safe. -/
  | notModelled (mnemonic : String)
deriving DecidableEq, Repr

/-- R27, D31: bits [31:0] are the bytes "YSC1" in little-endian order, bits [63:32] the source spec's revision, 7. -/
def idWord : Word := 0x0000000731435359#64

/-- R39: STATUS after reset. -/
def Status.reset : Status :=
  { ready := false, done := false, err := false, fatal := false, token := false, variant := .v512, errCode := .none }

/-- R39, R260, R261: the core right after reset, with no move of the host's given yet. -/
def State.reset : State where
  state := Vector.replicate 16 0#64
  ctr := 0#64
  key := Vector.replicate 16 0#64
  nonce := Vector.replicate 8 0#64
  dataIn := Vector.replicate 8 0#64
  id := idWord
  cap := Config.build
  ctrl := 0#3
  status := Status.reset
  keyLen := 0#16
  nonceLen := 0#16
  seekPos := 0#64
  ksOut := Vector.replicate 8 0#64
  test := Vector.replicate 16 0#64
  pending := none
  host := []
  turns := []
  responses := []

/-- STATUS.BUSY (R30): 1 while an accepted command is in flight. -/
def State.busy (s : State) : Bool := s.pending.isSome

end Sys2Proof.Machine
end

