-- ==== Sys2Proof/Machine/Params.lean ====
section
/-! DEFINITION. The fixed numbers of the source, in one file (93_implementation_defined.md S2: they are unaudited, so that an audit can change
them in one place): the variant table R2, and the rotation constants and P of R3. -/

namespace Sys2Proof.Machine

/-- R2: a row of the Variant Descriptor. -/
structure VariantRow where
  /-- KEY_WORDS. -/
  keyWords : Nat
  /-- NONCE_WORDS. -/
  nonceWords : Nat
  /-- INIT_ROUNDS. -/
  initRounds : Nat
  /-- KEYSTREAM_ROUNDS. -/
  keystreamRounds : Nat
deriving DecidableEq, Repr

/-- R2: exactly two instances, "512" (8,8,16,8) and "1024" (16,8,20,10). -/
def Variant.row : Variant → VariantRow
  | .v512 => { keyWords := 8, nonceWords := 8, initRounds := 16, keystreamRounds := 8 }
  | .v1024 => { keyWords := 16, nonceWords := 8, initRounds := 20, keystreamRounds := 10 }

/-- R2: the VAR code of a variant. -/
def Variant.code : Variant → BitVec 2
  | .v512 => 0b00#2
  | .v1024 => 0b01#2

/-- R2, R93: the variant a VAR code selects; 0b10 and 0b11 are reserved. -/
def variantOfCode (var : BitVec 2) : Option Variant :=
  if var = 0b00#2 then some .v512 else if var = 0b01#2 then some .v1024 else none

/-- R3: rotation constant R1 of F. -/
def rotation1 : Nat := 11

/-- R3: rotation constant R2 of F. -/
def rotation2 : Nat := 27

/-- R3: rotation constant R3 of F. -/
def rotation3 : Nat := 43

/-- R3: the diagonal permutation table P. -/
def diagTable : Vector (Fin 16) 16 := #v[0, 5, 10, 15, 4, 9, 14, 3, 8, 13, 2, 7, 12, 1, 6, 11]

end Sys2Proof.Machine
end

