-- ==== Sys2Proof/Machine/Operands.lean ====
section
/-! DEFINITION. The register window's operand forms (20_memory.md R61 to R69, R73): which register an offset names, which accesses are legal,
how a half-word write merges, and the byte-string views of R9. -/

namespace Sys2Proof.Machine

/-- R61: the registers of the window. -/
inductive Reg
  | id
  | cap
  | ctrl
  | cmd
  | status
  | keyLen
  | nonceLen
  | seekPos
  | ctr
  | key (i : Fin 16)
  | nonce (j : Fin 8)
  | dataIn (j : Fin 8)
  | ksOut (j : Fin 8)
  | test (i : Fin 16)
  /-- 0x048-0x07F, 0x1C0-0x1FF, 0x280-0x3FF (R65). -/
  | reserved
deriving DecidableEq, Repr

/-- R61, R66: the register at offset `off & ~7`. Each occupies 8 bytes at an 8-aligned offset, so it is named by off / 8. -/
def regAt (off : Offset) : Reg :=
  let k := off.toNat / 8
  if k = 0 then .id
  else if k = 1 then .cap
  else if k = 2 then .ctrl
  else if k = 3 then .cmd
  else if k = 4 then .status
  else if k = 5 then .keyLen
  else if k = 6 then .nonceLen
  else if k = 7 then .seekPos
  else if k = 8 then .ctr
  else if h : 16 ≤ k ∧ k < 32 then .key ⟨k - 16, by omega⟩
  else if h : 32 ≤ k ∧ k < 40 then .nonce ⟨k - 32, by omega⟩
  else if h : 40 ≤ k ∧ k < 48 then .dataIn ⟨k - 40, by omega⟩
  else if h : 48 ≤ k ∧ k < 56 then .ksOut ⟨k - 48, by omega⟩
  else if h : 64 ≤ k ∧ k < 80 then .test ⟨k - 64, by omega⟩
  else .reserved

/-- R63: an access is legal when it is 8 bytes at an 8-aligned offset or 4 bytes at a 4-aligned one. -/
def legalAccess (off : Offset) (size : Nat) : Bool :=
  (size == 8 && off.toNat % 8 == 0) || (size == 4 && off.toNat % 4 == 0)

/-- R66, R68: `off & 4`, the high half of the register. -/
def highHalf (off : Offset) : Bool := off.getLsbD 2

/-- R62, R66: the part of a register's 64 bits that a legal read of `size` bytes returns, with zero bits above it. -/
def readHalf (off : Offset) (size : Nat) (v : Word) : Word :=
  if size = 8 then v
  else if highHalf off then (v.extractLsb' 32 32).setWidth 64
  else (v.extractLsb' 0 32).setWidth 64

/-- R68: a 32-bit write replaces one half and keeps the other. -/
def merge (old : Word) (v : BitVec 32) (high : Bool) : Word :=
  if high then v ++ old.extractLsb' 0 32 else old.extractLsb' 32 32 ++ v

/-- R67: the 64-bit value a legal write leaves in an ordinary register that held `old`. -/
def writeValue (off : Offset) (size : Nat) (v old : Word) : Word :=
  if size = 8 then v else merge old (v.setWidth 32) (highHalf off)

/-- R67, R69: the write reaches bytes 0 to 3 of the register, so its low 32 bits. -/
def reachesLow (off : Offset) (size : Nat) : Bool := size == 8 || !highHalf off

/-- R60: the host address of a window offset. -/
def hostAddress (off : Offset) : Nat := Config.base + off.toNat

/-- R60: the window offset of a host address, where the address lies in the window; no other address reaches the core. -/
def windowOffset (addr : Nat) : Option Offset :=
  if Config.base ≤ addr ∧ addr < Config.base + 0x400 then some (BitVec.ofNat 10 (addr - Config.base)) else none

/-- R62: byte k of a 64-bit register, bits [8k+7:8k]. -/
def wordByte (w : Word) (k : Nat) : Byte := w.extractLsb' (8 * k) 8

/-- R9: `le64_encode` of one word, lowest address first. -/
def wordBytes (w : Word) : List Byte :=
  [wordByte w 0, wordByte w 1, wordByte w 2, wordByte w 3, wordByte w 4, wordByte w 5, wordByte w 6, wordByte w 7]

/-- R9: `le64_encode`. -/
def le64Encode (ws : List Word) : List Byte := ws.flatMap wordBytes

/-- R9: `le64_decode` of a byte string whose length is a multiple of 8; bytes of a last partial word are not decoded. -/
def le64Decode : List Byte → List Word
  | b0 :: b1 :: b2 :: b3 :: b4 :: b5 :: b6 :: b7 :: rest =>
    (b7 ++ b6 ++ b5 ++ b4 ++ b3 ++ b2 ++ b1 ++ b0) :: le64Decode rest
  | _ => []

/-- R31, R142: the byte length a word count stands for, 8 bytes a word. -/
def byteLength (words : Nat) : BitVec 16 := BitVec.ofNat 16 (8 * words)

end Sys2Proof.Machine
end

