-- ==== Sys2Proof/Machine/Flags.lean ====
section
/-! DEFINITION. The flags of the core: the fields of CTRL, CAP and STATUS, every event that writes STATUS (10_state.md R40), and irq. -/

namespace Sys2Proof.Machine

/-- R29: CTRL bit 0. -/
def forceScalar (ctrl : BitVec 3) : Bool := ctrl.getLsbD 0

/-- R29: CTRL bit 1. -/
def ieDone (ctrl : BitVec 3) : Bool := ctrl.getLsbD 1

/-- R29: CTRL bit 2. -/
def ieErr (ctrl : BitVec 3) : Bool := ctrl.getLsbD 2

/-- R28: CAP.VEC_PRESENT, the parameter VEC_PRESENT. -/
def vecPresent : Build → Bool
  | .scalarOnly => false
  | .lanes2 => true
  | .lanes4 => true

/-- R28: CAP.VEC_LANES, the parameter VEC_LANES. -/
def vecLanes : Build → BitVec 4
  | .scalarOnly => 0#4
  | .lanes2 => 2#4
  | .lanes4 => 4#4

/-- R28: CAP as software reads it: V1024 and V512 are 1, VEC_LANES at [7:4], VEC_PRESENT at 0, the rest 0. -/
def capWord (b : Build) : Word := 0#54 ++ 0b11#2 ++ vecLanes b ++ 0#3 ++ BitVec.ofBool (vecPresent b)

/-- R231: the 8-bit code. -/
def ErrCode.code : ErrCode → Byte
  | .none => 0x00#8
  | .illegalCmd => 0x01#8
  | .busy => 0x02#8
  | .notReady => 0x03#8
  | .sizeMismatch => 0x04#8
  | .ctrExhausted => 0x05#8

/-- R30: STATUS as software reads it, from its fields and BUSY. -/
def statusWord (busy : Bool) (st : Status) : Word :=
  0#48 ++ st.errCode.code ++ st.variant.code ++ BitVec.ofBool st.token ++ BitVec.ofBool st.fatal ++ BitVec.ofBool st.err
    ++ BitVec.ofBool st.done ++ BitVec.ofBool st.ready ++ BitVec.ofBool busy

/-- R40, row 1: an accepted command is issued (BUSY is PENDING's). -/
def Status.issued (st : Status) : Status := { st with done := false }

/-- R40: a command completes (BUSY is PENDING's). -/
def Status.completed (st : Status) : Status := { st with done := true }

/-- R140, R40: INIT latches READY, VARIANT and TOKEN. -/
def Status.latched (v : Variant) (b : Bool) (st : Status) : Status := { st with ready := true, variant := v, token := b }

/-- R211, R40: ZEROIZE clears READY, TOKEN and VARIANT. -/
def Status.scrubbed (st : Status) : Status := { st with ready := false, token := false, variant := .v512 }

/-- R233, R236, R238, R40: an error is reported. BUSY (0x02) leaves DONE alone, every other code sets it; 0x05 also sets FATAL;
the newest code overwrites ERRCODE (R245). -/
def Status.raised (code : ErrCode) (st : Status) : Status :=
  { st with
    err := true
    errCode := code
    done := if code = .busy then st.done else true
    fatal := if code = .ctrExhausted then true else st.fatal }

/-- R244: `status_write(v)`: bit 2 clears DONE, bit 3 clears ERR and ERRCODE while FATAL = 0, nothing else. -/
def Status.written (v : Word) (st : Status) : Status :=
  { st with
    done := if v.getLsbD 2 then false else st.done
    err := if v.getLsbD 3 && !st.fatal then false else st.err
    errCode := if v.getLsbD 3 && !st.fatal then .none else st.errCode }

/-- R241: the level output `irq`, a function of the state at every instant. -/
def irq (s : State) : Bool := (s.status.done && ieDone s.ctrl) || (s.status.err && ieErr s.ctrl)

end Sys2Proof.Machine
end

