-- ==== Sys2Proof/Machine/Permutation.lean ====
section
/-! DEFINITION. The pure functions of the round-function pipeline (40_permutation.md R110 to R115), which are also the scalar datapath (R194). -/

namespace Sys2Proof.Machine

/-- R8: the left rotation by 1 to 63. PRESUMED by the spec itself (K1: from general knowledge). -/
def rotl (x : Word) (r : Nat) : Word := (x <<< r) ||| (x >>> (64 - r))

/-- R110: the round primitive F. -/
def roundF (x : Word) : Word :=
  let y := x + rotl x rotation1
  let z := y ^^^ rotl y rotation2
  z + rotl z rotation3

/-- R111: the four words of a quad. -/
structure Quad where
  /-- Word 4q. -/
  w0 : Word
  /-- Word 4q + 1. -/
  w1 : Word
  /-- Word 4q + 2. -/
  w2 : Word
  /-- Word 4q + 3. -/
  w3 : Word
deriving DecidableEq, Repr

/-- R111: the Lai-Massey quad mixer. -/
def quadMix (x0 x1 x2 x3 : Word) : Quad :=
  let t0 := roundF (x0 ^^^ x2)
  let t1 := roundF (x1 ^^^ x3)
  let y0 := x0 + t0
  let y1 := x1 + t1
  let y2 := x2 + t0
  let y3 := x3 + t1
  { w0 := y0 ^^^ y2, w1 := y1 ^^^ y3, w2 := y0, w3 := y1 }

/-- R112: QuadMix on each of the quadruples {0-3}, {4-7}, {8-11} and {12-15}. -/
def quadMixAll (s : Block) : Block :=
  let a := quadMix s[0] s[1] s[2] s[3]
  let b := quadMix s[4] s[5] s[6] s[7]
  let c := quadMix s[8] s[9] s[10] s[11]
  let d := quadMix s[12] s[13] s[14] s[15]
  #v[a.w0, a.w1, a.w2, a.w3, b.w0, b.w1, b.w2, b.w3, c.w0, c.w1, c.w2, c.w3, d.w0, d.w1, d.w2, d.w3]

/-- R113, R11: the diagonal permutation: `new[i] = old[P[i]]` for all i simultaneously. -/
def diagPerm (old : Block) : Block := Vector.ofFn fun i => old[diagTable[i]]

/-- R114: the permutation round. -/
def permRound (s : Block) : Block := diagPerm (quadMixAll s)

/-- R115: a round function applied n times; n = 0 runs nothing (R10). -/
def repeatRound {α : Type} (f : α → α) : Nat → α → α
  | 0, s => s
  | n + 1, s => f (repeatRound f n s)

/-- R115: Round^n. -/
def permRounds (n : Nat) (s : Block) : Block := repeatRound permRound n s

/-- R215: F on every word; the 16 words are independent. -/
def mapF (s : Block) : Block := Vector.ofFn fun i => roundF s[i]

end Sys2Proof.Machine
end

