-- ==== Sys2Proof/Machine/Datapath.lean ====
section
/-! DEFINITION. The scalar and the vector datapath (43_backend.md R194 to R199), and which one a command runs on (R190, R191, R218). -/

namespace Sys2Proof.Machine

/-- R195: a vector of four 64-bit lanes. -/
structure Lanes where
  l0 : Word
  l1 : Word
  l2 : Word
  l3 : Word
deriving DecidableEq, Repr

/-- R195: the four column vectors; lane l of `vk` holds state word 4l + k. -/
structure Cols where
  v0 : Lanes
  v1 : Lanes
  v2 : Lanes
  v3 : Lanes
deriving DecidableEq, Repr

/-- R195: `V_k[l] = s[4l + k]`. -/
def pack (s : Block) : Cols :=
  { v0 := { l0 := s[0], l1 := s[4], l2 := s[8], l3 := s[12] }
    v1 := { l0 := s[1], l1 := s[5], l2 := s[9], l3 := s[13] }
    v2 := { l0 := s[2], l1 := s[6], l2 := s[10], l3 := s[14] }
    v3 := { l0 := s[3], l1 := s[7], l2 := s[11], l3 := s[15] } }

/-- R195: `s[i] = V_(i mod 4)[i div 4]`. -/
def unpack (c : Cols) : Block :=
  #v[c.v0.l0, c.v1.l0, c.v2.l0, c.v3.l0, c.v0.l1, c.v1.l1, c.v2.l1, c.v3.l1,
     c.v0.l2, c.v1.l2, c.v2.l2, c.v3.l2, c.v0.l3, c.v1.l3, c.v2.l3, c.v3.l3]

/-- R196: one operation on every lane. -/
def Lanes.map (f : Word → Word) (a : Lanes) : Lanes := { l0 := f a.l0, l1 := f a.l1, l2 := f a.l2, l3 := f a.l3 }

/-- R196: the lane-wise sum. -/
def Lanes.add (a b : Lanes) : Lanes := { l0 := a.l0 + b.l0, l1 := a.l1 + b.l1, l2 := a.l2 + b.l2, l3 := a.l3 + b.l3 }

/-- R196: the lane-wise exclusive or. -/
def Lanes.xor (a b : Lanes) : Lanes :=
  { l0 := a.l0 ^^^ b.l0, l1 := a.l1 ^^^ b.l1, l2 := a.l2 ^^^ b.l2, l3 := a.l3 ^^^ b.l3 }

/-- R196: `rotl(A, r)` rotates every lane left by the same constant r. -/
def Lanes.rotl (a : Lanes) (r : Nat) : Lanes := a.map fun x => Machine.rotl x r

/-- R196: `F(A)`, R110's F built from the lane operations. -/
def Lanes.roundF (a : Lanes) : Lanes :=
  let y := a.add (a.rotl rotation1)
  let z := y.xor (y.rotl rotation2)
  z.add (z.rotl rotation3)

/-- R196: the lane rotation, `lrot(A, k)[l] = A[(l + k) mod 4]`. -/
def Lanes.lrot (a : Lanes) (k : Fin 4) : Lanes :=
  match k with
  | 0 => a
  | 1 => { l0 := a.l1, l1 := a.l2, l2 := a.l3, l3 := a.l0 }
  | 2 => { l0 := a.l2, l1 := a.l3, l2 := a.l0, l3 := a.l1 }
  | 3 => { l0 := a.l3, l1 := a.l0, l2 := a.l1, l3 := a.l2 }

/-- R197, lines 1 to 3: QuadMix on all four quads at once. -/
def Cols.mix (c : Cols) : Cols :=
  let t0 := (c.v0.xor c.v2).roundF
  let t1 := (c.v1.xor c.v3).roundF
  let y0 := c.v0.add t0
  let y1 := c.v1.add t1
  let y2 := c.v2.add t0
  let y3 := c.v3.add t1
  { v0 := y0.xor y2, v1 := y1.xor y3, v2 := y0, v3 := y1 }

/-- R197, line 4: DiagPerm in column form. -/
def Cols.diag (c : Cols) : Cols := { v0 := c.v0.lrot 0, v1 := c.v1.lrot 1, v2 := c.v2.lrot 2, v3 := c.v3.lrot 3 }

/-- R197: one Round on the four-lane datapath. -/
def Cols.round (c : Cols) : Cols := c.mix.diag

/-- R196: F on every lane of every column. -/
def Cols.mapF (c : Cols) : Cols := { v0 := c.v0.roundF, v1 := c.v1.roundF, v2 := c.v2.roundF, v3 := c.v3.roundF }

/-- R198: a register of two 64-bit lanes. -/
structure Pair where
  a : Word
  b : Word
deriving DecidableEq, Repr

/-- R198: a column vector held as two registers, `lo = (V[0], V[1])` and `hi = (V[2], V[3])`. -/
structure Split where
  lo : Pair
  hi : Pair
deriving DecidableEq, Repr

/-- R198: the four column vectors of a two-lane datapath. -/
structure SplitCols where
  v0 : Split
  v1 : Split
  v2 : Split
  v3 : Split
deriving DecidableEq, Repr

/-- R198: the two registers of a column vector. -/
def Lanes.split (a : Lanes) : Split := { lo := { a := a.l0, b := a.l1 }, hi := { a := a.l2, b := a.l3 } }

/-- R198: the four-lane view of two registers. -/
def Split.join (s : Split) : Lanes := { l0 := s.lo.a, l1 := s.lo.b, l2 := s.hi.a, l3 := s.hi.b }

/-- R195, R198: the array in the registers of a two-lane datapath. -/
def packSplit (s : Block) : SplitCols :=
  { v0 := (pack s).v0.split, v1 := (pack s).v1.split, v2 := (pack s).v2.split, v3 := (pack s).v3.split }

/-- R195, R198: the array back in word form. -/
def unpackSplit (c : SplitCols) : Block := unpack { v0 := c.v0.join, v1 := c.v1.join, v2 := c.v2.join, v3 := c.v3.join }

/-- R196 on two lanes. -/
def Pair.map (f : Word → Word) (p : Pair) : Pair := { a := f p.a, b := f p.b }

/-- R196 on two lanes: the sum. -/
def Pair.add (p q : Pair) : Pair := { a := p.a + q.a, b := p.b + q.b }

/-- R196 on two lanes: the exclusive or. -/
def Pair.xor (p q : Pair) : Pair := { a := p.a ^^^ q.a, b := p.b ^^^ q.b }

/-- R196 on two lanes: the rotation of every lane by a constant. -/
def Pair.rotl (p : Pair) (r : Nat) : Pair := p.map fun x => Machine.rotl x r

/-- R196 on two lanes: F. -/
def Pair.roundF (p : Pair) : Pair :=
  let y := p.add (p.rotl rotation1)
  let z := y.xor (y.rotl rotation2)
  z.add (z.rotl rotation3)

/-- R198: the same halves of the four columns. -/
structure HalfCols where
  h0 : Pair
  h1 : Pair
  h2 : Pair
  h3 : Pair
deriving DecidableEq, Repr

/-- R198: the first three lines of R197 on one half. -/
def HalfCols.mix (c : HalfCols) : HalfCols :=
  let t0 := (c.h0.xor c.h2).roundF
  let t1 := (c.h1.xor c.h3).roundF
  let y0 := c.h0.add t0
  let y1 := c.h1.add t1
  let y2 := c.h2.add t0
  let y3 := c.h3.add t1
  { h0 := y0.xor y2, h1 := y1.xor y3, h2 := y0, h3 := y1 }

/-- R198: lines 1 to 3 of R197, once on the `.lo` halves and once on the `.hi` halves. -/
def SplitCols.mix (c : SplitCols) : SplitCols :=
  let lo := HalfCols.mix { h0 := c.v0.lo, h1 := c.v1.lo, h2 := c.v2.lo, h3 := c.v3.lo }
  let hi := HalfCols.mix { h0 := c.v0.hi, h1 := c.v1.hi, h2 := c.v2.hi, h3 := c.v3.hi }
  { v0 := { lo := lo.h0, hi := hi.h0 }, v1 := { lo := lo.h1, hi := hi.h1 },
    v2 := { lo := lo.h2, hi := hi.h2 }, v3 := { lo := lo.h3, hi := hi.h3 } }

/-- R198: the lane rotation of a column held as (lo, hi), the spec's table row by row. -/
def Split.lrot (s : Split) (k : Fin 4) : Split :=
  match k with
  | 0 => s
  | 1 => { lo := { a := s.lo.b, b := s.hi.a }, hi := { a := s.hi.b, b := s.lo.a } }
  | 2 => { lo := s.hi, hi := s.lo }
  | 3 => { lo := { a := s.hi.b, b := s.lo.a }, hi := { a := s.lo.b, b := s.hi.a } }

/-- R197, line 4, on two lanes. -/
def SplitCols.diag (c : SplitCols) : SplitCols :=
  { v0 := c.v0.lrot 0, v1 := c.v1.lrot 1, v2 := c.v2.lrot 2, v3 := c.v3.lrot 3 }

/-- R198: one Round on the two-lane datapath. -/
def SplitCols.round (c : SplitCols) : SplitCols := c.mix.diag

/-- R198: F on both registers of a column. -/
def Split.roundF (s : Split) : Split := { lo := s.lo.roundF, hi := s.hi.roundF }

/-- R198: F on every lane of every column. -/
def SplitCols.mapF (c : SplitCols) : SplitCols :=
  { v0 := c.v0.roundF, v1 := c.v1.roundF, v2 := c.v2.roundF, v3 := c.v3.roundF }

/-- The datapaths a core can have. -/
inductive Engine
  /-- R194: built always. -/
  | scalar
  /-- R198. -/
  | vector2
  /-- R195 to R197. -/
  | vector4
deriving DecidableEq, Repr

/-- R190, R191, R193: the datapath that the bit b selects on a build. -/
def engineOf (build : Build) (b : Bool) : Engine :=
  if b then
    match build with
    | .scalarOnly => .scalar
    | .lanes2 => .vector2
    | .lanes4 => .vector4
  else .scalar

/-- R194, R197, R198: Round^n on a datapath. The array is packed before the first round and unpacked after the last (R199). -/
def Engine.rounds : Engine → Nat → Block → Block
  | .scalar, n, s => permRounds n s
  | .vector2, n, s => unpackSplit (repeatRound SplitCols.round n (packSplit s))
  | .vector4, n, s => unpack (repeatRound Cols.round n (pack s))

/-- R213, R218: QuadMixAll on a datapath. -/
def Engine.quadMixAll : Engine → Block → Block
  | .scalar, s => Machine.quadMixAll s
  | .vector2, s => unpackSplit (packSplit s).mix
  | .vector4, s => unpack (pack s).mix

/-- R214, R218: DiagPerm on a datapath. -/
def Engine.diagPerm : Engine → Block → Block
  | .scalar, s => Machine.diagPerm s
  | .vector2, s => unpackSplit (packSplit s).diag
  | .vector4, s => unpack (pack s).diag

/-- R215, R218: F on every word, on a datapath. -/
def Engine.mapF : Engine → Block → Block
  | .scalar, s => Machine.mapF s
  | .vector2, s => unpackSplit (packSplit s).mapF
  | .vector4, s => unpack (pack s).mapF

end Sys2Proof.Machine
end

