-- ==== Sys2Proof/Machine/Ops.lean ====
section
/-! DEFINITION. The named operations over the registers: a register's host view and stored value, a host write to one, reporting an error
(the core's exception) and clearing the report (its return), the issue, the completion and the lifecycle of a command, reset. -/

namespace Sys2Proof.Machine

/-- What a step or an instruction answers. -/
abbrev Outcome := Host.Outcome State Fault Refusal

/-- R67, R68: the value a register stores, reserved bits 0. For KEY and NONCE it is the stored word, not the 0 a read returns. -/
def current (r : Reg) (s : State) : Word :=
  match r with
  | .id => s.id
  | .cap => capWord s.cap
  | .ctrl => s.ctrl.setWidth 64
  | .cmd => 0#64
  | .status => statusWord s.busy s.status
  | .keyLen => s.keyLen.setWidth 64
  | .nonceLen => s.nonceLen.setWidth 64
  | .seekPos => s.seekPos
  | .ctr => s.ctr
  | .key i => s.key[i]
  | .nonce j => s.nonce[j]
  | .dataIn j => s.dataIn[j]
  | .ksOut j => s.ksOut[j]
  | .test i => s.test[i]
  | .reserved => 0#64

/-- R61, R66: the value a host read sees: 0 for KEY, NONCE, CMD and the reserved offsets, else the stored value. -/
def hostView (r : Reg) (s : State) : Word :=
  match r with
  | .key _ => 0#64
  | .nonce _ => 0#64
  | .id => current .id s
  | .cap => current .cap s
  | .ctrl => current .ctrl s
  | .cmd => current .cmd s
  | .status => current .status s
  | .keyLen => current .keyLen s
  | .nonceLen => current .nonceLen s
  | .seekPos => current .seekPos s
  | .ctr => current .ctr s
  | .dataIn j => current (.dataIn j) s
  | .ksOut j => current (.ksOut j) s
  | .test i => current (.test i) s
  | .reserved => current .reserved s

/-- R66: `MemRead(BASE + off, size)` of a legal access. It changes no state. -/
def memRead (off : Offset) (size : Nat) (s : State) : Word := readHalf off size (hostView (regAt off) s)

/-- R73: the byte the window shows at an offset. The host reaches it only inside a legal access (R63). -/
def windowByte (off : Offset) (s : State) : Byte := wordByte (hostView (regAt off) s) (off.toNat % 8)

/-- R67: `r <- w` for the operand registers, reserved bits dropped; no other register is written so. -/
def writeOperand (r : Reg) (w : Word) (s : State) : State :=
  match r with
  | .keyLen => { s with keyLen := w.setWidth 16 }
  | .nonceLen => { s with nonceLen := w.setWidth 16 }
  | .seekPos => { s with seekPos := w }
  | .key i => { s with key := s.key.set i w }
  | .nonce j => { s with nonce := s.nonce.set j w }
  | .dataIn j => { s with dataIn := s.dataIn.set j w }
  | .test i => { s with test := s.test.set i w }
  | .id => s
  | .cap => s
  | .ctrl => s
  | .cmd => s
  | .status => s
  | .ctr => s
  | .ksOut _ => s
  | .reserved => s

/-- R233, R236, R238: an error is reported. This is the core's whole exception entry (R243): nothing is saved, control goes nowhere, and
nothing but STATUS changes. -/
def takeError (code : ErrCode) (s : State) : State := { s with status := s.status.raised code }

/-- R244: the return from an error, `status_write(v)`: the host clears the report. -/
def statusWrite (v : Word) (s : State) : State := { s with status := s.status.written v }

/-- R191: the probe, `VEC_PRESENT and not CTRL.FORCE_SCALAR`. -/
def probe (s : State) : Bool := vecPresent s.cap && !forceScalar s.ctrl

/-- R190: the backend bit of GEN and SEEK, the instance's cached token. -/
def cachedToken (s : State) : Bool := s.status.token

/-- R232 `accept`, R270 issue: PENDING latches the word and b, BUSY becomes 1 (R36) and DONE 0; no result register changes. -/
def accept (word : CmdWord) (b : Bool) (s : State) : State :=
  { s with pending := some { word := word, backend := b }, status := s.status.issued }

/-- R270 completion: BUSY becomes 0 (R36) and DONE 1, in the same event as the command's results. -/
def finish (s : State) : State := { s with pending := none, status := s.status.completed }

/-- The lifecycle every command shares (R270). With nothing in flight this is the command's ISSUE: while FATAL = 1 it is ignored unless the
command runs under FATAL (R239); its own check, if one applies, rejects it (R232, R233); else it is accepted with its backend bit.
With a command in flight this is that command's COMPLETION: its results and the end of BUSY in one atomic event (R71). A word written
while one is in flight never comes here (R232, R238): it is never decoded. -/
def command (i : Instr) (runsUnderFatal : Bool) (backend : State → Bool) (check : State → Option ErrCode)
    (effect : Bool → State → State) (s : State) : Outcome :=
  match s.pending with
  | some p => .next (finish (effect p.backend s))
  | none =>
    if s.status.fatal && !runsUnderFatal then .next s
    else
      match check s with
      | some code => .next (takeError code s)
      | none => .next (accept (encode i) (backend s) s)

/-- R230, R232: the check of a command that nothing but its encoding can reject. -/
def noCheck (_ : State) : Option ErrCode := none

/-- R235: GEN and SEEK need an instance. -/
def readyCheck (s : State) : Option ErrCode := if s.status.ready then none else some .notReady

/-- The datapath a command runs on (R190, R191, R202, R218). -/
def engine (b : Bool) (s : State) : Engine := engineOf s.cap b

/-- R260, R39: the reset event: every piece of the core's state at its reset value at once, a command in flight abandoned. ID and CAP are
constants that no event writes; the host's moves and what it has read are the host's. -/
def hardReset (s : State) : State :=
  { State.reset with id := s.id, cap := s.cap, host := s.host, turns := s.turns, responses := s.responses }

end Sys2Proof.Machine
end

