-- ==== Sys2Proof/Machine/Control.lean ====
section
/-! DEFINITION. The control commands (44_control_test.md R210, R211): NOP and ZEROIZE. -/

namespace Sys2Proof.Machine

/-- R210: NOP does nothing but complete. -/
def execNop (s : State) : Outcome := command .nop false probe noCheck (fun _ t => t) s

/-- R211: what ZEROIZE clears; ERR, ERRCODE, FATAL, CTRL, ID and CAP stay. -/
def scrub (s : State) : State :=
  { s with
    state := Vector.replicate 16 0#64
    ctr := 0#64
    key := Vector.replicate 16 0#64
    nonce := Vector.replicate 8 0#64
    keyLen := 0#16
    nonceLen := 0#16
    dataIn := Vector.replicate 8 0#64
    ksOut := Vector.replicate 8 0#64
    seekPos := 0#64
    test := Vector.replicate 16 0#64
    status := s.status.scrubbed }

/-- R211: ZEROIZE, the one command accepted while FATAL = 1 (R239). -/
def execZeroize (s : State) : Outcome := command .zeroize true probe noCheck (fun _ t => scrub t) s

end Sys2Proof.Machine
end

