-- ==== Sys2Proof/Machine/Keystream.lean ====
section
/-! DEFINITION. Counter-mode keystream and seeking (42_keystream.md R160 to R173): GEN and SEEK. -/

namespace Sys2Proof.Machine

/-- R163: the scratch array: a copy of STATE with word 12 overwritten by the counter. -/
def scratch (st : Block) (c : Word) : Block := st.set 12 c

/-- R164, R199: words [0, 8) of the scratch. -/
def firstHalf (x : Block) : KeyBlock := #v[x[0], x[1], x[2], x[3], x[4], x[5], x[6], x[7]]

/-- R161: `KSBlock(S, KR, c)`, by the functions of 40_permutation.md. -/
def ksBlock (st : Block) (kr : Nat) (c : Word) : KeyBlock := firstHalf (permRounds kr (scratch st c))

/-- R160, R163: the keystream block on a datapath. -/
def keystreamBlock (e : Engine) (st : Block) (kr : Nat) (c : Word) : KeyBlock := firstHalf (e.rounds kr (scratch st c))

/-- R164: the block XORed with the caller's data when X = 1, or raw. -/
def outputBlock (x : Bool) (block data : KeyBlock) : KeyBlock :=
  Vector.ofFn fun j => block[j] ^^^ (if x then data[j] else 0#64)

/-- R162: the last counter value, 2^64 - 1. -/
def lastCounter : Word := 0xFFFFFFFFFFFFFFFF#64

/-- R160's checks: NOT_READY (R235), then CTR_EXHAUSTED (R162, R236). -/
def genCheck (s : State) : Option ErrCode :=
  if s.status.ready then if s.ctr = lastCounter then some .ctrExhausted else none else some .notReady

/-- R160 at completion: one block at the counter CTR + 1 into KS_OUT, and CTR + 1 into CTR. STATE is read, never written (R165). -/
def genEffect (x : Bool) (b : Bool) (s : State) : State :=
  let c := s.ctr + 1#64
  let block := keystreamBlock (engine b s) s.state s.status.variant.row.keystreamRounds c
  { s with ksOut := outputBlock x block s.dataIn, ctr := c }

/-- R160: GEN. -/
def execGen (x : Bool) (s : State) : Outcome := command (.gen x) false cachedToken genCheck (genEffect x) s

/-- R166: SEEK overwrites CTR with SEEK_POS. -/
def execSeek (s : State) : Outcome := command .seek false cachedToken readyCheck (fun _ t => { t with ctr := t.seekPos }) s

end Sys2Proof.Machine
end

