-- ==== Sys2Proof/Machine/Schedule.lean ====
section
/-! DEFINITION. The key/nonce schedule (41_schedule.md R140 to R151): INIT. -/

namespace Sys2Proof.Machine

/-- Word i of an array, 0 past its end (the schedule never reads past one: KEY_WORDS is at most 16, NONCE_WORDS is 8). -/
def wordAt {n : Nat} (v : Vector Word n) (i : Nat) : Word := v[i]?.getD 0#64

/-- R140, steps 1 and 2: a zero-filled state with the key in words [0, KEY_WORDS). -/
def placeKey (row : VariantRow) (key : Block) : Block :=
  Vector.ofFn fun i => if i.val < row.keyWords then key[i] else 0#64

/-- R140, step 3, R141: the path is chosen by the word counts alone: disjoint placement, or the XOR-fold of R143. -/
def placeNonce (row : VariantRow) (nonce : KeyBlock) (s : Block) : Block :=
  if row.keyWords + row.nonceWords ≤ 16 then
    Vector.ofFn fun i =>
      if row.keyWords ≤ i.val ∧ i.val < row.keyWords + row.nonceWords then wordAt nonce (i.val - row.keyWords) else s[i]
  else
    Vector.ofFn fun i => if i.val < row.nonceWords then s[i] ^^^ wordAt nonce i.val else s[i]

/-- R140, steps 1 to 4, R144: the state before the INIT rounds; word 12 is 0 (R145). -/
def preRound (v : Variant) (key : Block) (nonce : KeyBlock) : Block :=
  (placeNonce v.row nonce (placeKey v.row key)).set 12 0#64

/-- R142: KEY_LEN = 8 KW and NONCE_LEN = 8 NW. -/
def lengthsMatch (v : Variant) (s : State) : Bool :=
  s.keyLen == byteLength v.row.keyWords && s.nonceLen == byteLength v.row.nonceWords

/-- R140's checks: a reserved VAR is an illegal word (R96), then the size check of R142. -/
def initCheck (var : BitVec 2) (s : State) : Option ErrCode :=
  match variantOfCode var with
  | none => some .illegalCmd
  | some v => if lengthsMatch v s then none else some .sizeMismatch

/-- R140, steps 1 to 6: the instance of variant v that INIT builds, its rounds on the datapath b selects (R202). -/
def construct (v : Variant) (b : Bool) (s : State) : State :=
  { s with
    state := (engine b s).rounds v.row.initRounds (preRound v s.key s.nonce)
    ctr := 0#64
    status := s.status.latched v b }

/-- INIT's effect for a VAR field; a reserved VAR is never in flight, and builds nothing. -/
def initEffect (var : BitVec 2) (b : Bool) (s : State) : State :=
  match variantOfCode var with
  | none => s
  | some v => construct v b s

/-- R140: INIT. -/
def execInit (var : BitVec 2) (s : State) : Outcome := command (.init var) false probe (initCheck var) (initEffect var) s

end Sys2Proof.Machine
end

