-- ==== Sys2Proof/Machine/TestBank.lean ====
section
/-! DEFINITION. The test commands (44_control_test.md R212 to R218): TPERM, TQMIX, TDPERM, TF. They read and write TEST only (R216). -/

namespace Sys2Proof.Machine

/-- R212: TPERM applies CNT permutation rounds to TEST, n = zext(CNT) (R95). -/
def execTperm (cnt : BitVec 16) (s : State) : Outcome :=
  command (.tperm cnt) false probe noCheck (fun b t => { t with test := (engine b t).rounds cnt.toNat t.test }) s

/-- R213: TQMIX applies the four quad mixers to TEST. -/
def execTqmix (s : State) : Outcome :=
  command .tqmix false probe noCheck (fun b t => { t with test := (engine b t).quadMixAll t.test }) s

/-- R214: TDPERM applies the diagonal permutation to TEST. -/
def execTdperm (s : State) : Outcome :=
  command .tdperm false probe noCheck (fun b t => { t with test := (engine b t).diagPerm t.test }) s

/-- R215: TF applies the round primitive to every TEST word. -/
def execTf (s : State) : Outcome :=
  command .tf false probe noCheck (fun b t => { t with test := (engine b t).mapF t.test }) s

end Sys2Proof.Machine
end

