-- ==== Sys2Proof/Machine/Dispatch.lean ====
section
/-! DEFINITION. The meaning of every command, one arm each. With nothing in flight an arm is the command's issue, with it in flight its completion. -/

namespace Sys2Proof.Machine

def exec (i : Instr) (s : State) : Host.Outcome State Fault Refusal :=
  match i with
  | .nop => Sys2Proof.Machine.execNop s
  | .init var => Sys2Proof.Machine.execInit var s
  | .gen x => Sys2Proof.Machine.execGen x s
  | .seek => Sys2Proof.Machine.execSeek s
  | .zeroize => Sys2Proof.Machine.execZeroize s
  | .tperm cnt => Sys2Proof.Machine.execTperm cnt s
  | .tqmix => Sys2Proof.Machine.execTqmix s
  | .tdperm => Sys2Proof.Machine.execTdperm s
  | .tf => Sys2Proof.Machine.execTf s

end Sys2Proof.Machine
end

