-- ==== Sys2Proof/Machine/Bus.lean ====
section
/-! DEFINITION. The host's side of the bus (20_memory.md R63 to R72) and the two agents' moves: issuing a command word, a host access, the
completion of the command in flight. -/

namespace Sys2Proof.Machine

/-- R211, R239: the exact word of ZEROIZE. -/
def zeroizeWord : CmdWord := 0x00000004#32

/-- R232: `issue(c)`. The first check that applies decides: the FATAL filter (R239), BUSY (R238), decoding (R234), then the checks of the
decoded command itself and its acceptance, which are the command's meaning. -/
def issue (c : CmdWord) (s : State) : Outcome :=
  if s.status.fatal && (s.busy || c != zeroizeWord) then .next s
  else if s.busy then .next (takeError .busy s)
  else
    match decode c with
    | .error _ => .next (takeError .illegalCmd s)
    | .ok i => exec i s

/-- R67: `MemWrite(BASE + off, size, v)` of a legal access. -/
def memWrite (off : Offset) (size : Nat) (v : Word) (s : State) : Outcome :=
  match regAt off with
  | .cmd => if reachesLow off size then issue (v.setWidth 32) s else .next s
  | .status => if reachesLow off size then .next (statusWrite ((v.setWidth 32).setWidth 64) s) else .next s
  | .ctrl => .next { s with ctrl := (writeValue off size v (current .ctrl s)).setWidth 3 }
  | r => if s.busy then .next s else .next (writeOperand r (writeValue off size v (current r s)) s)

/-- What the bus gives back, added to what it gave before (R281). -/
def record (r : Response) (s : State) : State := { s with responses := r :: s.responses }

/-- R66, R64: a host read: a legal one returns the data, any other is BusError with data 0, and the core's state does not change. -/
def hostRead (off : Offset) (size : Nat) (s : State) : Outcome :=
  if legalAccess off size then .next (record (.data (memRead off size s)) s)
  else .next (record (.readError Config.busErr 0#64) s)

/-- R67, R64: a host write: a legal one has R67's effect, any other is BusError and the core's state does not change. -/
def hostWrite (off : Offset) (size : Nat) (v : Word) (s : State) : Outcome :=
  if legalAccess off size then memWrite off size v s else .next (record (.writeError Config.busErr) s)

/-- R61: the offset of STATUS. -/
def statusOffset : Offset := 0x020#10

/-- R61: the offset of CMD. -/
def cmdOffset : Offset := 0x018#10

/-- R102 `wait`: `ld64 0x020`, and again while BUSY = 1. -/
def hostWait (s : State) : Outcome :=
  let v := memRead statusOffset 8 s
  let t := record (.data v) s
  .next (if v.getLsbD 0 then { t with host := .wait :: t.host } else t)

/-- R74, R282: the host's next move; with none left the core waits (R262). -/
def hostMove (s : State) : Outcome :=
  match s.host with
  | [] => .next s
  | .read off size :: rest => hostRead off size { s with host := rest }
  | .write off size v :: rest => hostWrite off size v { s with host := rest }
  | .wait :: rest => hostWait { s with host := rest }
  | .reset :: rest => .next (hardReset { s with host := rest })

/-- R270, R71: the sequencer's move: the completion of the command in flight, one atomic event; with none in flight, nothing. -/
def coreMove (s : State) : Outcome :=
  match s.pending with
  | none => .next s
  | some p =>
    match decode p.word with
    | .ok i => exec i s
    | .error _ => .fault .pendingIllegal

/-- R270, R272, R74: one move of one agent. `turns` says whose; where it says nothing a completion that is due comes first. -/
def move (s : State) : Outcome :=
  match s.turns with
  | .host :: rest => hostMove { s with turns := rest }
  | .core :: rest => coreMove { s with turns := rest }
  | [] => if s.busy then coreMove s else hostMove s

/-- The host's write of one command word with a 32-bit store at 0x018 (R101). -/
def commandWrite (c : CmdWord) : HostOp := .write cmdOffset 4 (c.setWidth 64)

/-- A state whose very next step has the host write the word `c` to CMD and the core decode it: the write is the host's next move, the next
turn is the host's, and nothing in flight and no FATAL keep the word from being decoded (R232). -/
def withCommandWord (c : CmdWord) (s : State) : State :=
  { s with
    host := commandWrite c :: s.host
    turns := .host :: s.turns
    pending := none
    status := { s.status with fatal := false } }

end Sys2Proof.Machine
end

