-- ==== Sys2Proof/Machine/Step.lean ====
section
/-! DEFINITION. One step of the machine: one move of the host or of the core's sequencer. -/

namespace Sys2Proof.Machine

/-- R270: one step. -/
def step (s : State) : Host.Outcome State Fault Refusal := move s

/-- The table's word as the host's next write to CMD, where the core takes every command word from (R69). -/
def State.withFetchWord (s : State) (nbits w : Nat) : State := withCommandWord (tableWord nbits w) s

end Sys2Proof.Machine
end

