-- ==== Sys2Proof/Machine/HostNotation.lean ====
section
/-! DEFINITION. The host-program notation (30_encoding.md R101) and its pseudo-instructions with their exact expansions (R102): lists of host moves. -/

namespace Sys2Proof.Machine

/-- R101 `st64 off, imm64`. -/
def st64 (off : Offset) (v : Word) : HostOp := .write off 8 v

/-- R101 `st32 off, imm32`. -/
def st32 (off : Offset) (v : BitVec 32) : HostOp := .write off 4 (v.setWidth 64)

/-- R101 `ld64 off`. -/
def ld64 (off : Offset) : HostOp := .read off 8

/-- R101 `ld32 off`. -/
def ld32 (off : Offset) : HostOp := .read off 4

/-- R101: issue a command by its encoded word, with a 32-bit store at 0x018. -/
def issueOp (i : Instr) : HostOp := commandWrite (encode i)

/-- R101 `.word imm32`: issue the raw word, legal or not. -/
def rawWord (c : CmdWord) : HostOp := commandWrite c

/-- `st64` of consecutive words from an offset on. -/
def storeWords (off : Offset) : List Word → List HostOp
  | [] => []
  | w :: ws => st64 off w :: storeWords (off + 8#10) ws

/-- `ld64` of n consecutive words from an offset on. -/
def loadWords (off : Offset) : Nat → List HostOp
  | 0 => []
  | n + 1 => ld64 off :: loadWords (off + 8#10) n

/-- R102 `setkey k0, ..., k(KW-1)`. -/
def setKey (key : List Word) : List HostOp := storeWords 0x080#10 key

/-- R102 `setnonce n0, ..., n7`. -/
def setNonce (nonce : List Word) : List HostOp := storeWords 0x100#10 nonce

/-- R102 `setlen kl, nl`. -/
def setLen (kl nl : Word) : List HostOp := [st64 0x028#10 kl, st64 0x030#10 nl]

/-- R102 `new v, key, nonce`: `setkey`, `setnonce`, `setlen 8 KW, 8 NW`, `init v`, `wait`; the boot sequence of R264. -/
def newInstance (v : Variant) (key nonce : List Word) : List HostOp :=
  setKey key ++ setNonce nonce ++ setLen (BitVec.ofNat 64 (8 * v.row.keyWords)) (BitVec.ofNat 64 (8 * v.row.nonceWords))
    ++ [issueOp (.init v.code), .wait]

/-- R102 `setpos n`. -/
def setPos (n : Word) : List HostOp := [st64 0x038#10 n, issueOp .seek, .wait]

/-- R102 `getpos`. -/
def getPos : List HostOp := [ld64 0x040#10]

/-- R102 `block`. -/
def blockOps : List HostOp := [issueOp (.gen false), .wait] ++ loadWords 0x180#10 8

/-- R102 `xorblock d0..d7`. -/
def xorBlockOps (data : List Word) : List HostOp :=
  storeWords 0x140#10 data ++ [issueOp (.gen true), .wait] ++ loadWords 0x180#10 8

/-- R102 `clrerr`. -/
def clrErr : List HostOp := [st64 0x020#10 0x8#64]

/-- R102 `clrdone`. -/
def clrDone : List HostOp := [st64 0x020#10 0x4#64]

end Sys2Proof.Machine
end

