-- ==== Sys2Proof/Machine/Latency.lean ====
section
/-! DEFINITION. The latency parameter LAT (70_reset_and_hazards.md R272, R273). No step reads it: the model has no clock (R280). -/

namespace Sys2Proof.Machine

/-- R273: what a command's latency may depend on: the opcode; VAR for INIT, STATUS.VARIANT for GEN; CNT for TPERM; b. -/
def latKey (i : Instr) (b : Bool) (s : State) : LatKey where
  opc := i.opc
  variant :=
    match i with
    | .init var => var
    | .gen _ => s.status.variant.code
    | _ => 0#2
  cnt :=
    match i with
    | .tperm cnt => cnt
    | _ => 0#16
  backend := b

/-- R272: the core clock cycles from issue to completion, at least 1. -/
def latency (i : Instr) (b : Bool) (s : State) : Nat := Config.latencyLessOne (latKey i b s) + 1

end Sys2Proof.Machine
end

