-- ==== Sys2Proof/Safety.lean ====
section
/-! DEFINITION. The words claims are made in: what a state a run can reach looks like (the invariant), what a good end of a run is
(70_reset_and_hazards.md R281), which event a step is, a command run from issue to completion, and the word groups of R121. -/

namespace Sys2Proof.Machine

/-- What R232's checks guarantee of a command in flight, and no later event can take away: nothing but a ZEROIZE runs under FATAL (R239);
GEN and SEEK have an instance (R235) and carry its token (R190); GEN has a counter left (R162); INIT has the lengths of its variant (R142). -/
def inFlightOk (i : Instr) (p : Pending) (s : State) : Prop :=
  (s.status.fatal = true → i = .zeroize) ∧
    match i with
    | .gen _ => s.status.ready = true ∧ p.backend = s.status.token ∧ s.ctr ≠ lastCounter
    | .seek => s.status.ready = true ∧ p.backend = s.status.token
    | .init var => ∃ v, variantOfCode var = some v ∧ lengthsMatch v s = true
    | _ => True

/-- PENDING holds a legal word (R232) whose checks held at its issue, DONE is 0 while it is in flight (R271), and b is 0 on a core without a
vector datapath (R193). -/
def PendingOk (s : State) : Prop :=
  ∀ p, s.pending = some p →
    s.status.done = false ∧ (p.backend = true → vecPresent s.cap = true) ∧ ∃ i, decode p.word = .ok i ∧ inFlightOk i p s

/-- ERRCODE is 0 exactly while ERR = 0, and 0x05 exactly while FATAL = 1 (R231, R236, R245). -/
def ErrorOk (s : State) : Prop :=
  (s.status.err = true ↔ s.status.errCode ≠ .none) ∧ (s.status.fatal = true ↔ s.status.errCode = .ctrExhausted)

/-- With no instance (R41) nothing of one is left: VARIANT and TOKEN read 0 (D45), STATE, CTR and KS_OUT hold 0 (R211, R260). -/
def ScrubbedOk (s : State) : Prop :=
  s.status.ready = false →
    s.status.token = false ∧ s.status.variant = .v512 ∧ s.state = Vector.replicate 16 0#64 ∧ s.ctr = 0#64 ∧
      s.ksOut = Vector.replicate 8 0#64

/-- FATAL leaves the exhausted counter where it was, or a ZEROIZE has ended the instance (R236, R239). -/
def FatalOk (s : State) : Prop := s.status.fatal = true → s.status.ready = true → s.ctr = lastCounter

/-- TOKEN is 0 on a core without a vector datapath (R193), and ID holds its constant (R27). -/
def BuildOk (s : State) : Prop := (s.status.token = true → vecPresent s.cap = true) ∧ s.id = idWord

/-- The invariant of the machine. -/
def Inv (s : State) : Prop := PendingOk s ∧ ErrorOk s ∧ ScrubbedOk s ∧ FatalOk s ∧ BuildOk s

/-- R281: the run is over: the host has no move left and no completion is due. -/
def Ended (s : State) : Prop := s.host = [] ∧ s.pending = none

/-- R64, I4: a bus error was recorded; no step takes a record away. -/
def sawBusError (s : State) : Bool :=
  s.responses.any fun r =>
    match r with
    | .data _ => false
    | .readError _ _ => true
    | .writeError _ => true

/-- R281, R236, I4: a good end: over, with FATAL = 0 and no bus error seen. -/
def GoodEnd (s : State) : Prop := Ended s ∧ s.status.fatal = false ∧ sawBusError s = false

/-- R270: which agent the next step of this state belongs to. -/
def mover (s : State) : Turn :=
  match s.turns with
  | t :: _ => t
  | [] => if s.busy then .core else .host

/-- The host's move that the next step makes, if the step is the host's and it has one left. -/
def hostActs (s : State) : Option HostOp :=
  match mover s with
  | .host => s.host.head?
  | .core => none

/-- The command that the next step completes, if it completes one. -/
def completes (s : State) : Option Instr :=
  match mover s with
  | .host => none
  | .core =>
    match s.pending with
    | none => none
    | some p =>
      match decode p.word with
      | .ok i => some i
      | .error _ => none

/-- BUSY = 0 and FATAL = 0: the core decodes the next word written to CMD (R232). -/
def Listening (s : State) : Prop := s.pending = none ∧ s.status.fatal = false

/-- R41, R162: an instance that can give one more block. -/
def CanGenerate (s : State) : Prop := s.status.ready = true ∧ s.ctr ≠ lastCounter

/-- A command from its issue to its completion, with nothing between (R270's folded form): what a host that waits sees. A command
rejected or ignored at issue ends there. -/
def runCommand (i : Instr) (s : State) : Outcome :=
  match exec i s with
  | .next t => if t.busy then exec i t else .next t
  | .fault f => .fault f
  | .refused r => .refused r

/-- n commands i in a row. -/
def runCommands (i : Instr) : Nat → State → Outcome
  | 0, s => .next s
  | n + 1, s =>
    match runCommands i n s with
    | .next t => runCommand i t
    | .fault f => .fault f
    | .refused r => .refused r

/-- R173: one operation of a sequence of GENs and SEEKs, with the operand the host gives it. -/
inductive Play
  /-- GEN with X and DATA_IN. -/
  | gen (x : Bool) (data : KeyBlock)
  /-- SEEK to a position. -/
  | seek (n : Word)
deriving DecidableEq, Repr

/-- R173: the KS_OUT sequence of such a sequence, up to a GEN that finds the counter exhausted (it gives no block, R162). -/
def keystreamOf : List Play → State → List KeyBlock
  | [], _ => []
  | .gen x data :: ops, s =>
    match runCommand (.gen x) { s with dataIn := data } with
    | .next t => if t.status.fatal then [] else t.ksOut :: keystreamOf ops t
    | .fault _ => []
    | .refused _ => []
  | .seek n :: ops, s =>
    match runCommand .seek { s with seekPos := n } with
    | .next t => keystreamOf ops t
    | .fault _ => []
    | .refused _ => []

/-- R201: two states that differ at most in what shows the backend: CAP, CTRL, TOKEN and the backend bit in flight. -/
def SameButBackend (s t : State) : Prop :=
  (∃ cap ctrl token, t = { s with cap := cap, ctrl := ctrl, status := { s.status with token := token }, pending := t.pending }) ∧
    s.pending.map Pending.word = t.pending.map Pending.word

/-- R273: two states that differ at most in STATE, KEY, NONCE, DATA_IN, KS_OUT, TEST and the data the host has read. -/
def SameButSecrets (s t : State) : Prop :=
  ∃ state key nonce dataIn ksOut test responses,
    t = { s with
      state := state, key := key, nonce := nonce, dataIn := dataIn, ksOut := ksOut, test := test, responses := responses }

/-- R121: the word groups G0 to G3. -/
def wordGroup (k : Fin 4) : List (Fin 16) :=
  match k with
  | 0 => [0, 2, 8, 10]
  | 1 => [1, 3, 9, 11]
  | 2 => [4, 6, 12, 14]
  | 3 => [5, 7, 13, 15]

/-- R121: the group whose words Round moves into group k: G0 and G2 are closed, G1 and G3 swap. -/
def sourceGroup (k : Fin 4) : Fin 4 :=
  match k with
  | 0 => 0
  | 1 => 3
  | 2 => 2
  | 3 => 1

/-- Two arrays hold the same words at these places. -/
def AgreeOn (g : List (Fin 16)) (a b : Block) : Prop := ∀ i ∈ g, a[i] = b[i]

/-- R119: the 2-word mixer M2. -/
def pairMix (a b : Word) : Word × Word := ((a + roundF (a ^^^ b)) ^^^ (b + roundF (a ^^^ b)), a + roundF (a ^^^ b))

/-- R144: the state before the INIT rounds, the spec's table word by word. -/
def preRoundTable (v : Variant) (key : Block) (nonce : KeyBlock) : Block :=
  match v with
  | .v512 =>
    #v[key[0], key[1], key[2], key[3], key[4], key[5], key[6], key[7], nonce[0], nonce[1], nonce[2], nonce[3], 0#64,
       nonce[5], nonce[6], nonce[7]]
  | .v1024 =>
    #v[key[0] ^^^ nonce[0], key[1] ^^^ nonce[1], key[2] ^^^ nonce[2], key[3] ^^^ nonce[3], key[4] ^^^ nonce[4],
       key[5] ^^^ nonce[5], key[6] ^^^ nonce[6], key[7] ^^^ nonce[7], key[8], key[9], key[10], key[11], 0#64, key[13],
       key[14], key[15]]

end Sys2Proof.Machine
end

