-- ==== Sys2Proof/Certificates/Slice0/Obligations.lean ====
section
/-! DEFINITION. The statements for the provers. Each docstring names the rule of spec/ it formalises. A next state is written out as a whole
record wherever it can be, so that a result is at the same time the frame: every field not named is unchanged. -/

open Sys2Proof Sys2Proof.Machine

/-- R232 `accept`, R270: the state right after a command's issue. -/
def Sys2Proof.Claims.issued (word : CmdWord) (b : Bool) (s : State) : State :=
  { s with pending := some { word := word, backend := b }, status := { s.status with done := false } }

/-- R233: the state right after a rejection, which FATAL aside is the same for every code. -/
def Sys2Proof.Claims.rejected (code : ErrCode) (s : State) : State :=
  { s with status := { s.status with err := true, errCode := code, done := true } }

/-- R270: BUSY becomes 0 and DONE 1. -/
def Sys2Proof.Claims.completed (s : State) : State :=
  { s with pending := none, status := { s.status with done := true } }

/-- R191: VEC_PRESENT and not CTRL.FORCE_SCALAR. -/
def Sys2Proof.Claims.probeBit (s : State) : Bool := (s.cap != Build.scalarOnly) && !s.ctrl.getLsbD 0

/-- R2: the byte length of a variant's key. -/
def Sys2Proof.Claims.keyBytes (v : Variant) : BitVec 16 :=
  match v with
  | .v512 => 64#16
  | .v1024 => 128#16

/-- R110, R8: the round primitive, written with Lean's own left rotation. -/
def Sys2Proof.Claims.arx (x : Word) : Word :=
  let y := x + x.rotateLeft 11
  let z := y ^^^ y.rotateLeft 27
  z + z.rotateLeft 43

/-- R67, R72: the next step is a host write to the register r with nothing in flight. -/
def Sys2Proof.Claims.HostWrites (r : Reg) (s : State) : Prop :=
  ∃ off size v, hostActs s = some (.write off size v) ∧ regAt off = r ∧ s.pending = none

open Sys2Proof.Claims

/-! ### Encoding -/

/-- R91, R92, R98: decoding an encoded well-formed command gives it back, at every operand value. -/
def Obligations.DecodeOfEncode : Prop := ∀ i : Instr, i.wellFormed = true → decode (encode i) = .ok i

/-- R98: exactly the listed words are legal, and each decodes to its command. -/
def Obligations.LegalWordsExactly : Prop :=
  ∀ (c : CmdWord) (i : Instr), decode c = .ok i ↔
    (c, i) ∈ [(0x00000000#32, Instr.nop), (0x00000001#32, .init 0b00#2), (0x00000101#32, .init 0b01#2), (0x00000002#32, .gen false),
        (0x00000102#32, .gen true), (0x00000003#32, .seek), (0x00000004#32, .zeroize), (0x00000011#32, .tqmix),
        (0x00000012#32, .tdperm), (0x00000013#32, .tf)] ∨
      ∃ n : BitVec 16, c = n ++ 0x0010#16 ∧ i = .tperm n

/-- R101: the words of the host notation. -/
def Obligations.NotationWordsDecode : Prop :=
  decodeTableWord 32 0x00000000 = some .nop ∧ decodeTableWord 32 0x00000101 = some (.init 0b01#2) ∧
    decodeTableWord 32 0x00000102 = some (.gen true) ∧ decodeTableWord 32 0x00030010 = some (.tperm 3#16) ∧
    decodeTableWord 32 0x00000013 = some .tf ∧ decodeTableWord 32 0x00000201 = none

/-! ### Issue, rejection and the fatal state -/

/-- R232: the issue checks, in their order, and what each outcome does. -/
def Obligations.IssueChecksInOrder : Prop :=
  ∀ (c : CmdWord) (s : State), issue c s =
    if s.status.fatal = true then
      if s.pending = none ∧ c = 0x00000004#32 then .next (issued c (probeBit s) s) else .next s
    else if s.pending ≠ none then .next { s with status := { s.status with err := true, errCode := .busy } }
    else
      match decode c with
      | .error _ => .next (rejected .illegalCmd s)
      | .ok (.gen _) =>
        if s.status.ready = false then .next (rejected .notReady s)
        else if s.ctr = 0xFFFFFFFFFFFFFFFF#64 then
          .next (rejected .ctrExhausted { s with status := { s.status with fatal := true } })
        else .next (issued c s.status.token s)
      | .ok .seek => if s.status.ready = false then .next (rejected .notReady s) else .next (issued c s.status.token s)
      | .ok (.init var) =>
        if s.keyLen ≠ (if var = 0b00#2 then 64#16 else 128#16) ∨ s.nonceLen ≠ 64#16 then .next (rejected .sizeMismatch s)
        else .next (issued c (probeBit s) s)
      | .ok _ => .next (issued c (probeBit s) s)

/-- R239: under FATAL every command but ZEROIZE is ignored at its issue, and a STATUS write clears DONE but not ERR. -/
def Obligations.FatalFiltersCommands : Prop :=
  (∀ (i : Instr) (s : State), s.pending = none → s.status.fatal = true → i ≠ .zeroize → exec i s = .next s) ∧
    ∀ (v : Word) (s : State), s.status.fatal = true →
      memWrite 0x020#10 8 v s = .next { s with status := { s.status with done := if v.getLsbD 2 then false else s.status.done } }

/-- R235: NOT_READY is raised by GEN and SEEK while READY = 0, and by no other command. -/
def Obligations.NotReadyExactlyForGenAndSeek : Prop :=
  (∀ (x : Bool) (s : State), Listening s → s.status.ready = false →
      exec (.gen x) s = .next (rejected .notReady s) ∧ exec .seek s = .next (rejected .notReady s)) ∧
    ∀ (i : Instr) (s t : State), i ≠ .seek → (∀ x, i ≠ .gen x) → exec i s = .next t → t.status.errCode = .notReady →
      s.status.errCode = .notReady

/-- R142: INIT is rejected with SIZE_MISMATCH unless both lengths are the variant's byte counts; the check runs at issue. -/
def Obligations.InitSizeCheck : Prop :=
  ∀ (v : Variant) (s : State), Listening s →
    exec (.init v.code) s =
      if s.keyLen = keyBytes v ∧ s.nonceLen = 64#16 then .next (issued (encode (.init v.code)) (probeBit s) s)
      else .next (rejected .sizeMismatch s)

/-- R93, R96: INIT with a reserved VAR is rejected as an illegal word, whatever the lengths. -/
def Obligations.ReservedVariantRejected : Prop :=
  ∀ (var : BitVec 2) (s : State), Listening s → var ≠ 0b00#2 → var ≠ 0b01#2 → exec (.init var) s = .next (rejected .illegalCmd s)

/-- R162, R236: GEN at CTR = 2^64 - 1 is the fatal error; CTR, KS_OUT, STATE and the instance stay. -/
def Obligations.ExhaustedCounterIsFatal : Prop :=
  ∀ (x : Bool) (s : State), Listening s → s.status.ready = true → s.ctr = 0xFFFFFFFFFFFFFFFF#64 →
    exec (.gen x) s =
      .next { s with status := { s.status with fatal := true, err := true, errCode := .ctrExhausted, done := true } }

/-! ### The commands: issue and completion -/

/-- R210: NOP is accepted, and its completion does nothing else. -/
def Obligations.NopRuns : Prop :=
  (∀ s : State, Listening s → exec .nop s = .next (issued 0x00000000#32 (probeBit s) s)) ∧
    ∀ (p : Pending) (s : State), s.pending = some p → exec .nop s = .next (completed s)

/-- R140, R144, R145, R146: INIT's completion builds the instance: the rounds on R144's state, CTR 0, VARIANT, TOKEN = b, READY; the
rounds are those of 40_permutation.md on whichever datapath. -/
def Obligations.InitRuns : Prop :=
  (∀ (v : Variant) (s : State), Listening s → s.keyLen = keyBytes v → s.nonceLen = 64#16 →
      exec (.init v.code) s = .next (issued (if v = .v512 then 0x00000001#32 else 0x00000101#32) (probeBit s) s)) ∧
    ∀ (v : Variant) (p : Pending) (s : State), s.pending = some p →
      exec (.init v.code) s =
        .next
          (completed
            { s with
              state := permRounds (if v = .v512 then 16 else 20) (preRoundTable v s.key s.nonce)
              ctr := 0#64
              status := { s.status with ready := true, variant := v, token := p.backend } })

/-- R160, R161, R163, R164: GEN's completion copies STATE, overwrites word 12 of the copy with CTR + 1, runs the variant's rounds and writes
words 0 to 7, raw or XORed with DATA_IN, and CTR + 1; and KSBlock is those words, which the statements below write so. -/
def Obligations.GenRuns : Prop :=
  (∀ (x : Bool) (s : State), Listening s → s.status.ready = true → s.ctr ≠ 0xFFFFFFFFFFFFFFFF#64 →
      exec (.gen x) s = .next (issued (if x then 0x00000102#32 else 0x00000002#32) s.status.token s)) ∧
    (∀ (x : Bool) (p : Pending) (s : State), s.pending = some p →
      exec (.gen x) s =
        .next
          (completed
            { s with
              ksOut :=
                Vector.ofFn fun j : Fin 8 =>
                  (permRounds (if s.status.variant = .v512 then 8 else 10) (s.state.set 12 (s.ctr + 1#64)))[j.val] ^^^
                    (if x then s.dataIn[j.val] else 0#64)
              ctr := s.ctr + 1#64 })) ∧
    ∀ (st : Block) (kr : Nat) (c : Word) (j : Fin 8), (ksBlock st kr c)[j.val] = (permRounds kr (st.set 12 c))[j.val]

/-- R166: SEEK's completion overwrites CTR with SEEK_POS, any value. -/
def Obligations.SeekRuns : Prop :=
  (∀ s : State, Listening s → s.status.ready = true → exec .seek s = .next (issued 0x00000003#32 s.status.token s)) ∧
    ∀ (p : Pending) (s : State), s.pending = some p → exec .seek s = .next (completed { s with ctr := s.seekPos })

/-- R211: ZEROIZE is accepted with or without FATAL, and its completion scrubs; ERR, ERRCODE, FATAL, CTRL, ID and CAP stay. -/
def Obligations.ZeroizeRuns : Prop :=
  (∀ s : State, s.pending = none → exec .zeroize s = .next (issued 0x00000004#32 (probeBit s) s)) ∧
    ∀ (p : Pending) (s : State), s.pending = some p →
      exec .zeroize s =
        .next
          (completed
            { s with
              state := Vector.replicate 16 0#64
              ctr := 0#64
              key := Vector.replicate 16 0#64
              nonce := Vector.replicate 8 0#64
              keyLen := 0#16
              nonceLen := 0#16
              dataIn := Vector.replicate 8 0#64
              ksOut := Vector.replicate 8 0#64
              seekPos := 0#64
              test := Vector.replicate 16 0#64
              status := { s.status with ready := false, token := false, variant := .v512 } })

/-- R212, R213, R214, R215: the test commands are accepted with or without an instance (R216). -/
def Obligations.TestCommandsAccepted : Prop :=
  ∀ s : State, Listening s →
    (∀ n : BitVec 16, exec (.tperm n) s = .next (issued (n ++ 0x0010#16) (probeBit s) s)) ∧
    exec .tqmix s = .next (issued 0x00000011#32 (probeBit s) s) ∧
    exec .tdperm s = .next (issued 0x00000012#32 (probeBit s) s) ∧ exec .tf s = .next (issued 0x00000013#32 (probeBit s) s)

/-- R212 to R216, R110: the completion of a test command applies its function of 40_permutation.md to TEST, on either datapath, and touches
nothing else. -/
def Obligations.TestCommandsRun : Prop :=
  ∀ (p : Pending) (s : State), s.pending = some p →
    (∀ n : BitVec 16, exec (.tperm n) s = .next (completed { s with test := permRounds n.toNat s.test })) ∧
    exec .tqmix s = .next (completed { s with test := quadMixAll s.test }) ∧
    exec .tdperm s = .next (completed { s with test := Vector.ofFn fun i => s.test[diagTable[i]] }) ∧
    exec .tf s = .next (completed { s with test := Vector.ofFn fun i => arx s.test[i] })

/-! ### The step -/

/-- R232, R270, R69: a step that takes a command word from the host's 32-bit write to CMD, with the core listening, is exec of the decoded
command after the host's move and the turn are taken; a step of the sequencer with a command in flight is exec of that command after the
turn is taken; with nothing to do a step takes the turn and changes nothing else (R262). R66, R67, R102: a step whose move is a read or a
write is hostRead or hostWrite of it, a legal hostWrite is memWrite, and wait reads STATUS and comes again while BUSY = 1. The turns, the list
of moves and wait as one move are the model's own form (notes/assumptions/1.md, 2.md, 14.md, 22.md). -/
def Obligations.StepRunsDecodedCommand : Prop :=
  (∀ (s : State) (v : Word) (rest : List HostOp) (i : Instr), Listening s → mover s = .host → s.host = .write 0x018#10 4 v :: rest →
      decode (v.setWidth 32) = .ok i → step s = exec i { s with host := rest, turns := s.turns.tail }) ∧
    (∀ (s : State) (p : Pending) (i : Instr), mover s = .core → s.pending = some p → decode p.word = .ok i →
      step s = exec i { s with turns := s.turns.tail }) ∧
    (∀ s : State, s.host = [] → s.pending = none → step s = .next { s with turns := s.turns.tail }) ∧
    (∀ s : State, mover s = .core → s.pending = none → step s = .next { s with turns := s.turns.tail }) ∧
    (∀ s : State, mover s = .host → s.host = [] → step s = .next { s with turns := s.turns.tail }) ∧
    (∀ (s : State) (off : Offset) (size : Nat) (rest : List HostOp), mover s = .host → s.host = .read off size :: rest →
      step s = hostRead off size { s with host := rest, turns := s.turns.tail }) ∧
    (∀ (s : State) (off : Offset) (size : Nat) (v : Word) (rest : List HostOp), mover s = .host → s.host = .write off size v :: rest →
      step s = hostWrite off size v { s with host := rest, turns := s.turns.tail }) ∧
    (∀ (s : State) (off : Offset) (size : Nat) (v : Word), (size = 8 ∧ off.toNat % 8 = 0) ∨ (size = 4 ∧ off.toNat % 4 = 0) →
      hostWrite off size v s = memWrite off size v s) ∧
    ∀ (s : State) (rest : List HostOp), mover s = .host → s.host = .wait :: rest →
      step s =
        .next
          { s with
            host := if s.pending = none then rest else .wait :: rest
            turns := s.turns.tail
            responses := .data (memRead 0x020#10 8 s) :: s.responses }

/-- The word withFetchWord places is the one the very next step runs; the model's own form (notes/assumptions/3.md). -/
def Obligations.FetchedWordRunsNext : Prop :=
  ∀ (nbits w : Nat) (i : Instr) (s : State), decodeTableWord nbits w = some i →
    step (s.withFetchWord nbits w) = exec i { s with pending := none, status := { s.status with fatal := false } }

/-- The invariant holds at reset (R39, R261). -/
def Obligations.InvariantAtReset : Prop := Inv State.reset

/-- The invariant is kept by every step: a command in flight keeps what its issue checked, errors and FATAL keep their codes, and with no
instance nothing of one is left (R36, R40, R193, R231, R236, R239, R271). -/
def Obligations.StepKeepsInvariant : Prop := ∀ s t : State, Inv s → step s = .next t → Inv t

/-- R230, R243, R262, R272: from a state that meets the invariant the machine never stops. That it goes on after a bus error too (R64, R240)
is the model's choice (notes/assumptions/6.md). -/
def Obligations.StepNeverStops : Prop := ∀ s : State, Inv s → ∃ t, step s = .next t

/-- R21, R23, R33, R35, R40, R248: who may change a result register, READY, TOKEN or VARIANT, over every step of every state. -/
def Obligations.ResultRegistersHaveTheirWriters : Prop :=
  ∀ s t : State, step s = .next t →
    (t.state ≠ s.state → hostActs s = some .reset ∨ (∃ v, completes s = some (.init v)) ∨ completes s = some .zeroize) ∧
    (t.ctr ≠ s.ctr → hostActs s = some .reset ∨ (∃ v, completes s = some (.init v)) ∨ (∃ x, completes s = some (.gen x)) ∨
      completes s = some .seek ∨ completes s = some .zeroize) ∧
    (t.ksOut ≠ s.ksOut → hostActs s = some .reset ∨ (∃ x, completes s = some (.gen x)) ∨ completes s = some .zeroize) ∧
    (t.test ≠ s.test → hostActs s = some .reset ∨ (∃ n, completes s = some (.tperm n)) ∨ completes s = some .tqmix ∨
      completes s = some .tdperm ∨ completes s = some .tf ∨ completes s = some .zeroize ∨
      ∃ off size v j, hostActs s = some (.write off size v) ∧ regAt off = .test j ∧ s.pending = none) ∧
    ((t.status.ready ≠ s.status.ready ∨ t.status.token ≠ s.status.token ∨ t.status.variant ≠ s.status.variant) →
      hostActs s = some .reset ∨ (∃ v, completes s = some (.init v)) ∨ completes s = some .zeroize)

/-- R24, R25, R26, R31, R32, R72: each operand register changes only by reset, by ZEROIZE, or by a host write to that very register while
BUSY = 0. -/
def Obligations.OperandRegistersHaveTheirWriters : Prop :=
  ∀ s t : State, step s = .next t →
    (∀ i : Fin 16, t.key[i] ≠ s.key[i] → hostActs s = some .reset ∨ completes s = some .zeroize ∨ HostWrites (.key i) s) ∧
    (∀ j : Fin 8, t.nonce[j] ≠ s.nonce[j] → hostActs s = some .reset ∨ completes s = some .zeroize ∨ HostWrites (.nonce j) s) ∧
    (∀ j : Fin 8, t.dataIn[j] ≠ s.dataIn[j] → hostActs s = some .reset ∨ completes s = some .zeroize ∨ HostWrites (.dataIn j) s) ∧
    (t.keyLen ≠ s.keyLen → hostActs s = some .reset ∨ completes s = some .zeroize ∨ HostWrites .keyLen s) ∧
    (t.nonceLen ≠ s.nonceLen → hostActs s = some .reset ∨ completes s = some .zeroize ∨ HostWrites .nonceLen s) ∧
    (t.seekPos ≠ s.seekPos → hostActs s = some .reset ∨ completes s = some .zeroize ∨ HostWrites .seekPos s)

/-- R263, R260, R39: only reset clears FATAL; and reset leaves the registers at R39's values whatever came before, a command in flight
abandoned. That it keeps the host's moves, the turns and the responses, and ID and CAP as they are, is the model's choice
(notes/assumptions/20.md). -/
def Obligations.OnlyResetLeavesFatal : Prop :=
  (∀ s t : State, step s = .next t → s.status.fatal = true → t.status.fatal = false → hostActs s = some .reset) ∧
    ∀ s : State, hostActs s = some .reset →
      step s =
        .next
          { state := Vector.replicate 16 0#64, ctr := 0#64, key := Vector.replicate 16 0#64, nonce := Vector.replicate 8 0#64
            dataIn := Vector.replicate 8 0#64, id := s.id, cap := s.cap, ctrl := 0#3
            status :=
              { ready := false, done := false, err := false, fatal := false, token := false, variant := .v512, errCode := .none }
            keyLen := 0#16, nonceLen := 0#16, seekPos := 0#64, ksOut := Vector.replicate 8 0#64, test := Vector.replicate 16 0#64
            pending := none, host := s.host.tail, turns := s.turns.tail, responses := s.responses }

/-- R236: FATAL is set only by a GEN written to a listening core whose instance is at CTR = 2^64 - 1. -/
def Obligations.OnlyExhaustedGenSetsFatal : Prop :=
  ∀ s t : State, step s = .next t → s.status.fatal = false → t.status.fatal = true →
    s.pending = none ∧ s.status.ready = true ∧ s.ctr = 0xFFFFFFFFFFFFFFFF#64 ∧
      ∃ off size v x, hostActs s = some (.write off size v) ∧ regAt off = .cmd ∧ decode (v.setWidth 32) = .ok (.gen x)

/-- R71, R72, R270, R271: while a command is in flight no move of the host's but reset changes it, an operand, a result, READY, VARIANT or
TOKEN, or sets DONE. -/
def Obligations.InFlightUntouchedByHost : Prop :=
  ∀ (s t : State) (p : Pending), step s = .next t → s.pending = some p → mover s = .host → hostActs s ≠ some .reset →
    t.pending = some p ∧ t.state = s.state ∧ t.ctr = s.ctr ∧ t.key = s.key ∧ t.nonce = s.nonce ∧ t.dataIn = s.dataIn ∧
      t.keyLen = s.keyLen ∧ t.nonceLen = s.nonceLen ∧ t.seekPos = s.seekPos ∧ t.ksOut = s.ksOut ∧ t.test = s.test ∧
      t.status.ready = s.status.ready ∧ t.status.token = s.status.token ∧ t.status.variant = s.status.variant ∧
      t.status.fatal = s.status.fatal ∧ (t.status.done = true → s.status.done = true)

/-- R272, R238: an accepted command completes: after any number of host moves, none a reset, the sequencer's turn ends it with DONE = 1. -/
def Obligations.AcceptedCommandCompletes : Prop :=
  ∀ (n : Nat) (s : State) (p : Pending) (rest : List Turn), Inv s → s.pending = some p → s.turns = List.replicate n .host ++ .core :: rest →
    (∀ op ∈ s.host, op ≠ .reset) →
    ∃ t, Host.Core.run core (n + 1) s = .next t ∧ t.pending = none ∧ t.status.done = true ∧ t.turns = rest

/-- R27, R28: ID and CAP are constants: no step writes them, ID reads its constant in every state the invariant holds in, and CAP reads the
build. -/
def Obligations.IdAndCapAreConstant : Prop :=
  (∀ s t : State, step s = .next t → t.id = s.id ∧ t.cap = s.cap) ∧
    (∀ s : State, Inv s → memRead 0x000#10 8 s = 0x0000000731435359#64) ∧
    ∀ s : State, memRead 0x008#10 8 s =
      match s.cap with
      | .scalarOnly => 0x0000000000000300#64
      | .lanes2 => 0x0000000000000321#64
      | .lanes4 => 0x0000000000000341#64

/-- R116, R203, R273: no control depends on STATE, KEY, NONCE, DATA_IN, KS_OUT or TEST: two states that differ only in these step to states
that differ only in these and in the data read. -/
def Obligations.SecretsDoNotSteer : Prop :=
  ∀ s t s' t' : State, SameButSecrets s t → step s = .next s' → step t = .next t' → SameButSecrets s' t'

/-! ### The register window -/

/-- R79: no read returns anything of STATE, KEY or NONCE. -/
def Obligations.WindowHidesSecrets : Prop :=
  ∀ (off : Offset) (size : Nat) (s : State) (state key : Block) (nonce : KeyBlock),
    memRead off size { s with state := state, key := key, nonce := nonce } = memRead off size s ∧
      irq { s with state := state, key := key, nonce := nonce } = irq s

/-- R64: an access that is not legal has no effect on any state, a read returns data 0, and the bus signals an error. -/
def Obligations.IllegalAccessHasNoEffect : Prop :=
  ∀ (off : Offset) (size : Nat) (v : Word) (s : State), ¬((size = 8 ∧ off.toNat % 8 = 0) ∨ (size = 4 ∧ off.toNat % 4 = 0)) →
    hostRead off size s = .next { s with responses := .readError Config.busErr 0#64 :: s.responses } ∧
      hostWrite off size v s = .next { s with responses := .writeError Config.busErr :: s.responses }

/-- R66, R70: a legal read returns the register's host view, whole or by halves, and has no side effect; the view is 0 for KEY, NONCE, CMD
and the reserved offsets. -/
def Obligations.LegalReadHasNoSideEffect : Prop :=
  (∀ (off : Offset) (s : State), off.toNat % 8 = 0 →
      hostRead off 8 s = .next { s with responses := .data (hostView (regAt off) s) :: s.responses } ∧
        hostRead off 4 s = .next { s with responses := .data (0#32 ++ (hostView (regAt off) s).extractLsb' 0 32) :: s.responses }) ∧
    (∀ (off : Offset) (s : State), off.toNat % 8 = 4 →
      hostRead off 4 s = .next { s with responses := .data (0#32 ++ (hostView (regAt off) s).extractLsb' 32 32) :: s.responses }) ∧
    ∀ s : State, (∀ i, hostView (.key i) s = 0#64) ∧ (∀ j, hostView (.nonce j) s = 0#64) ∧ hostView .cmd s = 0#64 ∧
      hostView .reserved s = 0#64 ∧ hostView .ctr s = s.ctr ∧ hostView .seekPos s = s.seekPos ∧
      (∀ j, hostView (.ksOut j) s = s.ksOut[j]) ∧ (∀ j, hostView (.dataIn j) s = s.dataIn[j]) ∧ ∀ i, hostView (.test i) s = s.test[i]

/-- R61: the register map, register by register, and the reserved ranges. -/
def Obligations.RegisterMap : Prop :=
  (∀ off : Offset, off.toNat < 0x048 →
      regAt off = ([Reg.id, .cap, .ctrl, .cmd, .status, .keyLen, .nonceLen, .seekPos, .ctr][off.toNat / 8]?).getD .reserved) ∧
    (∀ (i : Fin 16) (k : Fin 8), regAt (BitVec.ofNat 10 (0x080 + 8 * i + k)) = .key i ∧
      regAt (BitVec.ofNat 10 (0x200 + 8 * i + k)) = .test i) ∧
    (∀ (j : Fin 8) (k : Fin 8), regAt (BitVec.ofNat 10 (0x100 + 8 * j + k)) = .nonce j ∧
      regAt (BitVec.ofNat 10 (0x140 + 8 * j + k)) = .dataIn j ∧ regAt (BitVec.ofNat 10 (0x180 + 8 * j + k)) = .ksOut j) ∧
    ∀ off : Offset, ((0x048 ≤ off.toNat ∧ off.toNat < 0x080) ∨ (0x1C0 ≤ off.toNat ∧ off.toNat < 0x200) ∨ 0x280 ≤ off.toNat) →
      regAt off = .reserved

/-- R67: an 8-byte write to a writable register stores the value, reserved bits dropped, and changes nothing else; the next read returns it. -/
def Obligations.RegisterWriteStores : Prop :=
  (∀ (v : Word) (s : State), memWrite 0x010#10 8 v s = .next { s with ctrl := v.setWidth 3 } ∧
      memRead 0x010#10 8 { s with ctrl := v.setWidth 3 } = v &&& 0x7#64) ∧
    ∀ (v : Word) (s : State), s.pending = none →
      memWrite 0x028#10 8 v s = .next { s with keyLen := v.setWidth 16 } ∧
      memWrite 0x030#10 8 v s = .next { s with nonceLen := v.setWidth 16 } ∧
      memWrite 0x038#10 8 v s = .next { s with seekPos := v } ∧
      (∀ i : Fin 16, memWrite (BitVec.ofNat 10 (0x080 + 8 * i)) 8 v s = .next { s with key := s.key.set i v } ∧
        memWrite (BitVec.ofNat 10 (0x200 + 8 * i)) 8 v s = .next { s with test := s.test.set i v } ∧
        memRead (BitVec.ofNat 10 (0x200 + 8 * i)) 8 { s with test := s.test.set i v } = v) ∧
      (∀ j : Fin 8, memWrite (BitVec.ofNat 10 (0x100 + 8 * j)) 8 v s = .next { s with nonce := s.nonce.set j v } ∧
        memWrite (BitVec.ofNat 10 (0x140 + 8 * j)) 8 v s = .next { s with dataIn := s.dataIn.set j v } ∧
        memRead (BitVec.ofNat 10 (0x140 + 8 * j)) 8 { s with dataIn := s.dataIn.set j v } = v) ∧
      memRead 0x028#10 8 { s with keyLen := v.setWidth 16 } = v &&& 0xFFFF#64 ∧
      memRead 0x030#10 8 { s with nonceLen := v.setWidth 16 } = v &&& 0xFFFF#64 ∧
      memRead 0x038#10 8 { s with seekPos := v } = v

/-- R67, R68, R277: a 32-bit write replaces one half of the stored register and keeps the other, KEY's and NONCE's too though they read 0; in
CTRL and the lengths the high half is reserved. Two of them build a word, and between them the register holds the mix. -/
def Obligations.TwoHalfWritesMakeAWord : Prop :=
  (∀ (i : Fin 16) (lo hi : BitVec 32) (s : State), s.pending = none →
    memWrite (BitVec.ofNat 10 (0x080 + 8 * i)) 4 (lo.setWidth 64) s =
        .next { s with key := s.key.set i (s.key[i].extractLsb' 32 32 ++ lo) } ∧
      memWrite (BitVec.ofNat 10 (0x084 + 8 * i)) 4 (hi.setWidth 64) s =
        .next { s with key := s.key.set i (hi ++ s.key[i].extractLsb' 0 32) } ∧
      memWrite (BitVec.ofNat 10 (0x084 + 8 * i)) 4 (hi.setWidth 64)
          { s with key := s.key.set i (s.key[i].extractLsb' 32 32 ++ lo) } = .next { s with key := s.key.set i (hi ++ lo) } ∧
      memWrite (BitVec.ofNat 10 (0x200 + 8 * i)) 4 (lo.setWidth 64) s =
        .next { s with test := s.test.set i (s.test[i].extractLsb' 32 32 ++ lo) } ∧
      memWrite (BitVec.ofNat 10 (0x204 + 8 * i)) 4 (hi.setWidth 64) s =
        .next { s with test := s.test.set i (hi ++ s.test[i].extractLsb' 0 32) }) ∧
    (∀ (j : Fin 8) (lo hi : BitVec 32) (s : State), s.pending = none →
      memWrite (BitVec.ofNat 10 (0x100 + 8 * j)) 4 (lo.setWidth 64) s =
          .next { s with nonce := s.nonce.set j (s.nonce[j].extractLsb' 32 32 ++ lo) } ∧
        memWrite (BitVec.ofNat 10 (0x104 + 8 * j)) 4 (hi.setWidth 64) s =
          .next { s with nonce := s.nonce.set j (hi ++ s.nonce[j].extractLsb' 0 32) } ∧
        memWrite (BitVec.ofNat 10 (0x140 + 8 * j)) 4 (lo.setWidth 64) s =
          .next { s with dataIn := s.dataIn.set j (s.dataIn[j].extractLsb' 32 32 ++ lo) } ∧
        memWrite (BitVec.ofNat 10 (0x144 + 8 * j)) 4 (hi.setWidth 64) s =
          .next { s with dataIn := s.dataIn.set j (hi ++ s.dataIn[j].extractLsb' 0 32) }) ∧
    (∀ (lo hi : BitVec 32) (s : State), s.pending = none →
      memWrite 0x038#10 4 (lo.setWidth 64) s = .next { s with seekPos := s.seekPos.extractLsb' 32 32 ++ lo } ∧
        memWrite 0x03C#10 4 (hi.setWidth 64) s = .next { s with seekPos := hi ++ s.seekPos.extractLsb' 0 32 } ∧
        memWrite 0x028#10 4 (lo.setWidth 64) s = .next { s with keyLen := lo.extractLsb' 0 16 } ∧
        memWrite 0x02C#10 4 (hi.setWidth 64) s = .next s ∧
        memWrite 0x030#10 4 (lo.setWidth 64) s = .next { s with nonceLen := lo.extractLsb' 0 16 } ∧
        memWrite 0x034#10 4 (hi.setWidth 64) s = .next s) ∧
    ∀ (lo hi : BitVec 32) (s : State),
      memWrite 0x010#10 4 (lo.setWidth 64) s = .next { s with ctrl := lo.extractLsb' 0 3 } ∧
        memWrite 0x014#10 4 (hi.setWidth 64) s = .next s

/-- R72: while BUSY = 1 writes to the operand registers are ignored, writes to CTRL and STATUS take effect, and a write to CMD is BUSY's. -/
def Obligations.BusyDropsOperandWrites : Prop :=
  ∀ (p : Pending) (v : Word) (s : State), s.pending = some p →
    (∀ (off : Offset) (size : Nat), regAt off ∈ [Reg.keyLen, .nonceLen, .seekPos] ∨ (∃ i, regAt off = .key i) ∨ (∃ j, regAt off = .nonce j) ∨
        (∃ j, regAt off = .dataIn j) ∨ (∃ i, regAt off = .test i) → memWrite off size v s = .next s) ∧
    memWrite 0x010#10 8 v s = .next { s with ctrl := v.setWidth 3 } ∧
    memWrite 0x020#10 8 v s = .next (statusWrite v s) ∧
    (s.status.fatal = false → memWrite 0x018#10 8 v s = .next { s with status := { s.status with err := true, errCode := .busy } })

/-- R244: a write that reaches the low half of STATUS clears DONE by bit 2, ERR and ERRCODE by bit 3 while FATAL = 0, and nothing else,
whether BUSY is 0 or 1. -/
def Obligations.StatusWriteClears : Prop :=
  ∀ (v : Word) (s : State), ∀ size ∈ [8, 4], memWrite 0x020#10 size v s =
    .next
      { s with
        status :=
          { s.status with
            done := if v.getLsbD 2 then false else s.status.done
            err := if v.getLsbD 3 ∧ s.status.fatal = false then false else s.status.err
            errCode := if v.getLsbD 3 ∧ s.status.fatal = false then .none else s.status.errCode } }

/-- R61, R65, R67, R68: writes to ID, CAP, CTR, KS_OUT and reserved offsets and to the high half of STATUS change nothing. -/
def Obligations.ReadOnlyIgnoresWrites : Prop :=
  ∀ (off : Offset) (size : Nat) (v : Word) (s : State),
    (regAt off ∈ [Reg.id, .cap, .ctr, .reserved] ∨ (∃ j, regAt off = .ksOut j) → memWrite off size v s = .next s) ∧
      memWrite 0x024#10 4 v s = .next s

/-- R69, R99: a write that reaches CMD bytes 0x018-0x01B issues its low 32 bits; bits [63:32] never matter, and a 32-bit write to 0x01C
issues nothing. -/
def Obligations.CmdWriteIssues : Prop :=
  ∀ (hi : BitVec 32) (c : CmdWord) (v : Word) (s : State),
    memWrite 0x018#10 8 (hi ++ c) s = issue c s ∧ memWrite 0x018#10 4 (hi ++ c) s = issue c s ∧ memWrite 0x01C#10 4 v s = .next s

/-- R30, R2, R231: where STATUS shows each field, and the numbers of VARIANT and ERRCODE. -/
def Obligations.StatusReadsItsFields : Prop :=
  ∀ s : State, (memRead 0x020#10 8 s).getLsbD 0 = s.pending.isSome ∧ (memRead 0x020#10 8 s).getLsbD 1 = s.status.ready ∧
    (memRead 0x020#10 8 s).getLsbD 2 = s.status.done ∧ (memRead 0x020#10 8 s).getLsbD 3 = s.status.err ∧
    (memRead 0x020#10 8 s).getLsbD 4 = s.status.fatal ∧ (memRead 0x020#10 8 s).getLsbD 5 = s.status.token ∧
    (memRead 0x020#10 8 s).extractLsb' 6 2 =
      (match s.status.variant with
        | .v512 => 0b00#2
        | .v1024 => 0b01#2) ∧
    (memRead 0x020#10 8 s).extractLsb' 8 8 =
      (match s.status.errCode with
        | .none => 0x00#8
        | .illegalCmd => 0x01#8
        | .busy => 0x02#8
        | .notReady => 0x03#8
        | .sizeMismatch => 0x04#8
        | .ctrExhausted => 0x05#8) ∧
    (memRead 0x020#10 8 s).extractLsb' 16 48 = 0#48

/-- R241: irq in the bits the host reads: DONE and IE_DONE, or ERR and IE_ERR; 0 at reset. -/
def Obligations.IrqFromReadableBits : Prop :=
  (∀ s : State, irq s =
      (((memRead 0x020#10 8 s).getLsbD 2 && (memRead 0x010#10 8 s).getLsbD 1) ||
        ((memRead 0x020#10 8 s).getLsbD 3 && (memRead 0x010#10 8 s).getLsbD 2))) ∧
    irq State.reset = false

/-- R60: an offset's host address lies in the window and leads back to it, and no other address reaches the core. -/
def Obligations.WindowAddresses : Prop :=
  Config.base % 0x400 = 0 ∧ (∀ off : Offset, windowOffset (hostAddress off) = some off) ∧
    ∀ (addr : Nat) (off : Offset), windowOffset addr = some off → addr = hostAddress off

/-- R9: the little-endian encode and decode, and byte 8i + k of the encoding. -/
def Obligations.LittleEndianBytes : Prop :=
  (∀ ws : List Word, le64Decode (le64Encode ws) = ws) ∧
    (∀ bs : List Byte, bs.length % 8 = 0 → le64Encode (le64Decode bs) = bs) ∧
    ∀ (ws : List Word) (i k : Nat) (w : Word), ws[i]? = some w → k < 8 →
      (le64Encode ws)[8 * i + k]? = some (w.extractLsb' (8 * k) 8)

/-- R73, R164: byte m of the data block sits at 0x140 + m, byte m of the keystream block at 0x180 + m, and key and nonce bytes belong to the
registers at 0x080 + m and 0x100 + m. -/
def Obligations.WindowShowsByteStrings : Prop :=
  (∀ (m : Fin 64) (s : State), (le64Encode s.dataIn.toList)[m.val]? = some (windowByte (BitVec.ofNat 10 (0x140 + m)) s) ∧
      (le64Encode s.ksOut.toList)[m.val]? = some (windowByte (BitVec.ofNat 10 (0x180 + m)) s) ∧
      regAt (BitVec.ofNat 10 (0x100 + m)) = .nonce ⟨m / 8, by omega⟩) ∧
    ∀ m : Fin 128, regAt (BitVec.ofNat 10 (0x080 + m)) = .key ⟨m / 8, by omega⟩

/-! ### The permutation and the datapaths -/

/-- R117: the all-zero state is a fixed point of F, QuadMix, QuadMixAll and every Round^n. -/
def Obligations.ZeroLaws : Prop :=
  roundF 0#64 = 0#64 ∧ quadMix 0#64 0#64 0#64 0#64 = { w0 := 0#64, w1 := 0#64, w2 := 0#64, w3 := 0#64 } ∧
    quadMixAll (Vector.replicate 16 0#64) = Vector.replicate 16 0#64 ∧
    ∀ n : Nat, permRounds n (Vector.replicate 16 0#64) = Vector.replicate 16 0#64

/-- R118, R119: the quad mixer is two independent 2-word mixers, and an equal pair gives 0 and itself. -/
def Obligations.QuadMixSplitsIntoPairs : Prop :=
  (∀ x0 x1 x2 x3 : Word, quadMix x0 x1 x2 x3 =
      { w0 := (pairMix x0 x2).1, w1 := (pairMix x1 x3).1, w2 := (pairMix x0 x2).2, w3 := (pairMix x1 x3).2 }) ∧
    ∀ x0 x1 x2 x3 : Word, (x0 = x2 → (quadMix x0 x1 x2 x3).w0 = 0#64 ∧ (quadMix x0 x1 x2 x3).w2 = x0) ∧
      (x1 = x3 → (quadMix x0 x1 x2 x3).w1 = 0#64 ∧ (quadMix x0 x1 x2 x3).w3 = x1)

/-- R120: the properties of P: columns kept, fixed points, cycles, order 4, the inverse, the square, and the column form. -/
def Obligations.DiagPermProperties : Prop :=
  (∀ i : Fin 16, diagTable[i].val % 4 = i.val % 4) ∧
    (∀ i : Fin 16, diagTable[i] = i ↔ i ∈ [(0 : Fin 16), 4, 8, 12]) ∧
    ([(2 : Fin 16), 10].map fun i => diagTable[i]) = [10, 2] ∧ ([(6 : Fin 16), 14].map fun i => diagTable[i]) = [14, 6] ∧
    ([(1 : Fin 16), 5, 9, 13].map fun i => diagTable[i]) = [5, 9, 13, 1] ∧
    ([(3 : Fin 16), 15, 11, 7].map fun i => diagTable[i]) = [15, 11, 7, 3] ∧
    (∀ s : Block, diagPerm (diagPerm (diagPerm (diagPerm s))) = s) ∧
    (∀ s : Block, diagPerm (diagPerm (diagPerm s)) =
      #v[s[0], s[13], s[10], s[7], s[4], s[1], s[14], s[11], s[8], s[5], s[2], s[15], s[12], s[9], s[6], s[3]]) ∧
    (∀ s : Block, diagPerm (diagPerm s) =
      #v[s[0], s[9], s[2], s[11], s[4], s[13], s[6], s[15], s[8], s[1], s[10], s[3], s[12], s[5], s[14], s[7]]) ∧
    ∀ (s : Block) (q k : Fin 4), (diagPerm s)[4 * q.val + k.val] = s[4 * ((q.val + k.val) % 4) + k.val]

/-- R121: one Round moves the words of group sourceGroup k into group k and lets no other word reach it; so an even number of rounds keeps
every group closed, and the round counts of both variants are even. -/
def Obligations.WordGroupsStayApart : Prop :=
  (∀ (k : Fin 4) (s t : Block), AgreeOn (wordGroup (sourceGroup k)) s t → AgreeOn (wordGroup k) (permRound s) (permRound t)) ∧
    (∀ (k : Fin 4) (n : Nat) (s t : Block), n % 2 = 0 → AgreeOn (wordGroup k) s t →
      AgreeOn (wordGroup k) (permRounds n s) (permRounds n t)) ∧
    ∀ v : Variant, v.row.initRounds % 2 = 0 ∧ v.row.keystreamRounds % 2 = 0

/-- R200, R197, R198, R199: every datapath gives the same array after n rounds, the same keystream block, and the same test results. -/
def Obligations.DatapathsAgree : Prop :=
  ∀ (e : Engine) (s : Block), (∀ n : Nat, e.rounds n s = permRounds n s) ∧
    (∀ (kr : Nat) (c : Word), keystreamBlock e s kr c = ksBlock s kr c) ∧
    e.quadMixAll s = quadMixAll s ∧ e.diagPerm s = diagPerm s ∧ e.mapF s = mapF s

/-- R201: no command result and no error depends on CAP, CTRL, TOKEN or the backend bit: states that differ only in these run any command to
states that differ only in these. -/
def Obligations.NoTraceOfTheBackend : Prop :=
  ∀ (i : Instr) (s t s' t' : State), SameButBackend s t → exec i s = .next s' → exec i t = .next t' → SameButBackend s' t'

/-- R273: the latency depends on nothing but the opcode, VAR or STATUS.VARIANT, CNT and b, never on X, and is at least 1 (R272). -/
def Obligations.LatencyIsDataIndependent : Prop :=
  (∀ (i : Instr) (b : Bool) (s t : State), s.status.variant = t.status.variant → latency i b s = latency i b t) ∧
    (∀ (i : Instr) (b : Bool) (s t : State), (∀ x, i ≠ .gen x) → latency i b s = latency i b t) ∧
    (∀ (x y : Bool) (b : Bool) (s : State), latency (.gen x) b s = latency (.gen y) b s) ∧
    ∀ (i : Instr) (b : Bool) (s : State), 1 ≤ latency i b s

/-! ### The schedule and the keystream -/

/-- R148: NONCE[4] in "512" and KEY[12] in "1024" have no effect on the instance INIT builds. -/
def Obligations.DeadInputWords : Prop :=
  ∀ (p : Pending) (s : State) (w : Word), s.pending = some p →
    (∃ t, exec (.init 0b00#2) s = .next t ∧
      exec (.init 0b00#2) { s with nonce := s.nonce.set 4 w } = .next { t with nonce := s.nonce.set 4 w }) ∧
    ∃ t, exec (.init 0b01#2) s = .next t ∧
      exec (.init 0b01#2) { s with key := s.key.set 12 w } = .next { t with key := s.key.set 12 w }

/-- R149: in "1024" the instance INIT builds depends on KEY[0..7] and NONCE[0..7] only through their XOR, so the same bits flipped in both
give the same instance. -/
def Obligations.FoldCollisions : Prop :=
  (∀ (p : Pending) (s : State) (key : Block) (nonce : KeyBlock), s.pending = some p →
      (∀ j : Fin 8, key[j.val] ^^^ nonce[j.val] = s.key[j.val] ^^^ s.nonce[j.val]) → (∀ i : Fin 16, 8 ≤ i.val → key[i] = s.key[i]) →
      ∃ t t', exec (.init 0b01#2) s = .next t ∧ exec (.init 0b01#2) { s with key := key, nonce := nonce } = .next t' ∧
        t'.state = t.state ∧ t'.ctr = t.ctr ∧ t'.status = t.status) ∧
    ∀ (p : Pending) (s : State) (j : Fin 8) (d : Word), s.pending = some p →
      ∃ t t', exec (.init 0b01#2) s = .next t ∧
        exec (.init 0b01#2)
            { s with
              key := s.key.set j.val (s.key[j.val] ^^^ d)
              nonce := s.nonce.set j.val (s.nonce[j.val] ^^^ d) } = .next t' ∧
        t'.state = t.state ∧ t'.ctr = t.ctr ∧ t'.status = t.status

/-- R150: after INIT, STATE on group k depends only on R144's pre-round words of group k. -/
def Obligations.ScheduleKeepsGroupsApart : Prop :=
  ∀ (v : Variant) (k : Fin 4) (key key' : Block) (nonce nonce' : KeyBlock),
    AgreeOn (wordGroup k) (preRoundTable v key nonce) (preRoundTable v key' nonce') →
    AgreeOn (wordGroup k) (permRounds v.row.initRounds (preRound v key nonce)) (permRounds v.row.initRounds (preRound v key' nonce'))

/-- R151: a group whose four pre-round words are 0 stays 0, and all-zero input gives an all-zero STATE. -/
def Obligations.ZeroInputStaysZero : Prop :=
  (∀ (v : Variant) (k : Fin 4) (key : Block) (nonce : KeyBlock), (∀ i ∈ wordGroup k, (preRoundTable v key nonce)[i] = 0#64) →
      ∀ i ∈ wordGroup k, (permRounds v.row.initRounds (preRound v key nonce))[i] = 0#64) ∧
    ∀ (v : Variant) (key : Block) (nonce : KeyBlock), preRoundTable v key nonce = Vector.replicate 16 0#64 →
      permRounds v.row.initRounds (preRound v key nonce) = Vector.replicate 16 0#64

/-- R169: words 0, 1, 2, 3, 5 and 7 of a block, so bytes 0..31, 40..47 and 56..63, are the same for every counter value. -/
def Obligations.CounterReachesTwoWordsOnly : Prop :=
  ∀ (v : Variant) (st : Block) (c c' : Word),
    (∀ j : Fin 8, j ≠ 4 → j ≠ 6 → (ksBlock st v.row.keystreamRounds c)[j] = (ksBlock st v.row.keystreamRounds c')[j]) ∧
      ∀ m : Nat, m < 32 ∨ (40 ≤ m ∧ m < 48) ∨ (56 ≤ m ∧ m < 64) →
        (le64Encode (ksBlock st v.row.keystreamRounds c).toList)[m]? = (le64Encode (ksBlock st v.row.keystreamRounds c').toList)[m]?

/-- R162, R170: no block ever uses counter 0. -/
def Obligations.NoBlockForCounterZero : Prop :=
  ∀ (x : Bool) (s t : State), Inv s → completes s = some (.gen x) → step s = .next t → t.ctr = s.ctr + 1#64 ∧ t.ctr ≠ 0#64

/-- R168: for every N below 2^64 - 1, SEEK to N then GEN gives KSBlock(STATE, KR, N + 1), and so do N GENs from CTR = 0 then GEN; the
instance before that GEN is the same: the same STATE, and CTR = N. -/
def Obligations.SeekLaw : Prop :=
  (∀ (s : State) (n : Nat), Listening s → s.status.ready = true → n < 2 ^ 64 - 1 →
      ∃ a b, runCommand .seek { s with seekPos := BitVec.ofNat 64 n } = .next a ∧ a.state = s.state ∧ a.ctr = BitVec.ofNat 64 n ∧
        a.status.variant = s.status.variant ∧ runCommand (.gen false) a = .next b ∧
        b.ksOut = ksBlock s.state s.status.variant.row.keystreamRounds (BitVec.ofNat 64 (n + 1))) ∧
    ∀ (s : State) (n : Nat), Listening s → s.status.ready = true → s.ctr = 0#64 → n < 2 ^ 64 - 1 →
      ∃ a b, runCommands (.gen false) n s = .next a ∧ a.state = s.state ∧ a.ctr = BitVec.ofNat 64 n ∧
        a.status.variant = s.status.variant ∧ runCommand (.gen false) a = .next b ∧
        b.ksOut = ksBlock s.state s.status.variant.row.keystreamRounds (BitVec.ofNat 64 (n + 1))

/-- R172: gen.xor at a counter gives D xor the block, and gen.xor at the same counter with that output gives D again. -/
def Obligations.XorInvolution : Prop :=
  ∀ (s : State) (d : KeyBlock), Listening s → CanGenerate s →
    ∃ a b c, runCommand (.gen true) { s with dataIn := d } = .next a ∧
      a.ksOut = (Vector.ofFn fun j => d[j] ^^^ (ksBlock s.state s.status.variant.row.keystreamRounds (s.ctr + 1#64))[j]) ∧
      runCommand .seek { a with seekPos := s.ctr, dataIn := a.ksOut } = .next b ∧ runCommand (.gen true) b = .next c ∧ c.ksOut = d

/-- R173: two INITs with the same VAR, KEY, NONCE and lengths build the same STATE whatever came before, and equal GEN and SEEK sequences
after them give equal KS_OUT sequences. -/
def Obligations.KeystreamIsDetermined : Prop :=
  ∀ (v : Variant) (s s' : State), Listening s → Listening s' → s.key = s'.key → s.nonce = s'.nonce → s.keyLen = s'.keyLen →
    s.nonceLen = s'.nonceLen → s.keyLen = keyBytes v → s.nonceLen = 64#16 →
    ∃ t t', runCommand (.init v.code) s = .next t ∧ runCommand (.init v.code) s' = .next t' ∧ t.state = t'.state ∧
      ∀ ops : List Play, keystreamOf ops t = keystreamOf ops t'
end

