-- ==== Sys2Proof/Laws/State.lean ====
section
/-! SUPPORT. One lemma per field per update of State and Status, true by rfl, so that no later proof unfolds a record update. -/

namespace Sys2Proof.Machine

variable (s : State) (st : Status)

@[simp] theorem takeError_state (c : ErrCode) : (takeError c s).state = s.state := rfl
@[simp] theorem takeError_ctr (c : ErrCode) : (takeError c s).ctr = s.ctr := rfl
@[simp] theorem takeError_key (c : ErrCode) : (takeError c s).key = s.key := rfl
@[simp] theorem takeError_nonce (c : ErrCode) : (takeError c s).nonce = s.nonce := rfl
@[simp] theorem takeError_dataIn (c : ErrCode) : (takeError c s).dataIn = s.dataIn := rfl
@[simp] theorem takeError_id (c : ErrCode) : (takeError c s).id = s.id := rfl
@[simp] theorem takeError_cap (c : ErrCode) : (takeError c s).cap = s.cap := rfl
@[simp] theorem takeError_ctrl (c : ErrCode) : (takeError c s).ctrl = s.ctrl := rfl
@[simp] theorem takeError_status (c : ErrCode) : (takeError c s).status = s.status.raised c := rfl
@[simp] theorem takeError_keyLen (c : ErrCode) : (takeError c s).keyLen = s.keyLen := rfl
@[simp] theorem takeError_nonceLen (c : ErrCode) : (takeError c s).nonceLen = s.nonceLen := rfl
@[simp] theorem takeError_seekPos (c : ErrCode) : (takeError c s).seekPos = s.seekPos := rfl
@[simp] theorem takeError_ksOut (c : ErrCode) : (takeError c s).ksOut = s.ksOut := rfl
@[simp] theorem takeError_test (c : ErrCode) : (takeError c s).test = s.test := rfl
@[simp] theorem takeError_pending (c : ErrCode) : (takeError c s).pending = s.pending := rfl
@[simp] theorem takeError_host (c : ErrCode) : (takeError c s).host = s.host := rfl
@[simp] theorem takeError_turns (c : ErrCode) : (takeError c s).turns = s.turns := rfl
@[simp] theorem takeError_responses (c : ErrCode) : (takeError c s).responses = s.responses := rfl

@[simp] theorem statusWrite_state (v : Word) : (statusWrite v s).state = s.state := rfl
@[simp] theorem statusWrite_ctr (v : Word) : (statusWrite v s).ctr = s.ctr := rfl
@[simp] theorem statusWrite_key (v : Word) : (statusWrite v s).key = s.key := rfl
@[simp] theorem statusWrite_nonce (v : Word) : (statusWrite v s).nonce = s.nonce := rfl
@[simp] theorem statusWrite_dataIn (v : Word) : (statusWrite v s).dataIn = s.dataIn := rfl
@[simp] theorem statusWrite_id (v : Word) : (statusWrite v s).id = s.id := rfl
@[simp] theorem statusWrite_cap (v : Word) : (statusWrite v s).cap = s.cap := rfl
@[simp] theorem statusWrite_ctrl (v : Word) : (statusWrite v s).ctrl = s.ctrl := rfl
@[simp] theorem statusWrite_status (v : Word) : (statusWrite v s).status = s.status.written v := rfl
@[simp] theorem statusWrite_keyLen (v : Word) : (statusWrite v s).keyLen = s.keyLen := rfl
@[simp] theorem statusWrite_nonceLen (v : Word) : (statusWrite v s).nonceLen = s.nonceLen := rfl
@[simp] theorem statusWrite_seekPos (v : Word) : (statusWrite v s).seekPos = s.seekPos := rfl
@[simp] theorem statusWrite_ksOut (v : Word) : (statusWrite v s).ksOut = s.ksOut := rfl
@[simp] theorem statusWrite_test (v : Word) : (statusWrite v s).test = s.test := rfl
@[simp] theorem statusWrite_pending (v : Word) : (statusWrite v s).pending = s.pending := rfl
@[simp] theorem statusWrite_host (v : Word) : (statusWrite v s).host = s.host := rfl
@[simp] theorem statusWrite_turns (v : Word) : (statusWrite v s).turns = s.turns := rfl
@[simp] theorem statusWrite_responses (v : Word) : (statusWrite v s).responses = s.responses := rfl

@[simp] theorem accept_state (w : CmdWord) (b : Bool) : (accept w b s).state = s.state := rfl
@[simp] theorem accept_ctr (w : CmdWord) (b : Bool) : (accept w b s).ctr = s.ctr := rfl
@[simp] theorem accept_key (w : CmdWord) (b : Bool) : (accept w b s).key = s.key := rfl
@[simp] theorem accept_nonce (w : CmdWord) (b : Bool) : (accept w b s).nonce = s.nonce := rfl
@[simp] theorem accept_dataIn (w : CmdWord) (b : Bool) : (accept w b s).dataIn = s.dataIn := rfl
@[simp] theorem accept_id (w : CmdWord) (b : Bool) : (accept w b s).id = s.id := rfl
@[simp] theorem accept_cap (w : CmdWord) (b : Bool) : (accept w b s).cap = s.cap := rfl
@[simp] theorem accept_ctrl (w : CmdWord) (b : Bool) : (accept w b s).ctrl = s.ctrl := rfl
@[simp] theorem accept_status (w : CmdWord) (b : Bool) : (accept w b s).status = s.status.issued := rfl
@[simp] theorem accept_keyLen (w : CmdWord) (b : Bool) : (accept w b s).keyLen = s.keyLen := rfl
@[simp] theorem accept_nonceLen (w : CmdWord) (b : Bool) : (accept w b s).nonceLen = s.nonceLen := rfl
@[simp] theorem accept_seekPos (w : CmdWord) (b : Bool) : (accept w b s).seekPos = s.seekPos := rfl
@[simp] theorem accept_ksOut (w : CmdWord) (b : Bool) : (accept w b s).ksOut = s.ksOut := rfl
@[simp] theorem accept_test (w : CmdWord) (b : Bool) : (accept w b s).test = s.test := rfl
@[simp] theorem accept_pending (w : CmdWord) (b : Bool) : (accept w b s).pending = some ⟨w, b⟩ := rfl
@[simp] theorem accept_host (w : CmdWord) (b : Bool) : (accept w b s).host = s.host := rfl
@[simp] theorem accept_turns (w : CmdWord) (b : Bool) : (accept w b s).turns = s.turns := rfl
@[simp] theorem accept_responses (w : CmdWord) (b : Bool) : (accept w b s).responses = s.responses := rfl

@[simp] theorem finish_state : (finish s).state = s.state := rfl
@[simp] theorem finish_ctr : (finish s).ctr = s.ctr := rfl
@[simp] theorem finish_key : (finish s).key = s.key := rfl
@[simp] theorem finish_nonce : (finish s).nonce = s.nonce := rfl
@[simp] theorem finish_dataIn : (finish s).dataIn = s.dataIn := rfl
@[simp] theorem finish_id : (finish s).id = s.id := rfl
@[simp] theorem finish_cap : (finish s).cap = s.cap := rfl
@[simp] theorem finish_ctrl : (finish s).ctrl = s.ctrl := rfl
@[simp] theorem finish_status : (finish s).status = s.status.completed := rfl
@[simp] theorem finish_keyLen : (finish s).keyLen = s.keyLen := rfl
@[simp] theorem finish_nonceLen : (finish s).nonceLen = s.nonceLen := rfl
@[simp] theorem finish_seekPos : (finish s).seekPos = s.seekPos := rfl
@[simp] theorem finish_ksOut : (finish s).ksOut = s.ksOut := rfl
@[simp] theorem finish_test : (finish s).test = s.test := rfl
@[simp] theorem finish_pending : (finish s).pending = none := rfl
@[simp] theorem finish_host : (finish s).host = s.host := rfl
@[simp] theorem finish_turns : (finish s).turns = s.turns := rfl
@[simp] theorem finish_responses : (finish s).responses = s.responses := rfl

@[simp] theorem record_state (r : Response) : (record r s).state = s.state := rfl
@[simp] theorem record_ctr (r : Response) : (record r s).ctr = s.ctr := rfl
@[simp] theorem record_key (r : Response) : (record r s).key = s.key := rfl
@[simp] theorem record_nonce (r : Response) : (record r s).nonce = s.nonce := rfl
@[simp] theorem record_dataIn (r : Response) : (record r s).dataIn = s.dataIn := rfl
@[simp] theorem record_id (r : Response) : (record r s).id = s.id := rfl
@[simp] theorem record_cap (r : Response) : (record r s).cap = s.cap := rfl
@[simp] theorem record_ctrl (r : Response) : (record r s).ctrl = s.ctrl := rfl
@[simp] theorem record_status (r : Response) : (record r s).status = s.status := rfl
@[simp] theorem record_keyLen (r : Response) : (record r s).keyLen = s.keyLen := rfl
@[simp] theorem record_nonceLen (r : Response) : (record r s).nonceLen = s.nonceLen := rfl
@[simp] theorem record_seekPos (r : Response) : (record r s).seekPos = s.seekPos := rfl
@[simp] theorem record_ksOut (r : Response) : (record r s).ksOut = s.ksOut := rfl
@[simp] theorem record_test (r : Response) : (record r s).test = s.test := rfl
@[simp] theorem record_pending (r : Response) : (record r s).pending = s.pending := rfl
@[simp] theorem record_host (r : Response) : (record r s).host = s.host := rfl
@[simp] theorem record_turns (r : Response) : (record r s).turns = s.turns := rfl
@[simp] theorem record_responses (r : Response) : (record r s).responses = r :: s.responses := rfl

@[simp] theorem scrub_state : (scrub s).state = Vector.replicate 16 0#64 := rfl
@[simp] theorem scrub_ctr : (scrub s).ctr = 0#64 := rfl
@[simp] theorem scrub_key : (scrub s).key = Vector.replicate 16 0#64 := rfl
@[simp] theorem scrub_nonce : (scrub s).nonce = Vector.replicate 8 0#64 := rfl
@[simp] theorem scrub_dataIn : (scrub s).dataIn = Vector.replicate 8 0#64 := rfl
@[simp] theorem scrub_id : (scrub s).id = s.id := rfl
@[simp] theorem scrub_cap : (scrub s).cap = s.cap := rfl
@[simp] theorem scrub_ctrl : (scrub s).ctrl = s.ctrl := rfl
@[simp] theorem scrub_status : (scrub s).status = s.status.scrubbed := rfl
@[simp] theorem scrub_keyLen : (scrub s).keyLen = 0#16 := rfl
@[simp] theorem scrub_nonceLen : (scrub s).nonceLen = 0#16 := rfl
@[simp] theorem scrub_seekPos : (scrub s).seekPos = 0#64 := rfl
@[simp] theorem scrub_ksOut : (scrub s).ksOut = Vector.replicate 8 0#64 := rfl
@[simp] theorem scrub_test : (scrub s).test = Vector.replicate 16 0#64 := rfl
@[simp] theorem scrub_pending : (scrub s).pending = s.pending := rfl
@[simp] theorem scrub_host : (scrub s).host = s.host := rfl
@[simp] theorem scrub_turns : (scrub s).turns = s.turns := rfl
@[simp] theorem scrub_responses : (scrub s).responses = s.responses := rfl

@[simp] theorem construct_state (v : Variant) (b : Bool) : (construct v b s).state = (engine b s).rounds v.row.initRounds (preRound v s.key s.nonce) := rfl
@[simp] theorem construct_ctr (v : Variant) (b : Bool) : (construct v b s).ctr = 0#64 := rfl
@[simp] theorem construct_key (v : Variant) (b : Bool) : (construct v b s).key = s.key := rfl
@[simp] theorem construct_nonce (v : Variant) (b : Bool) : (construct v b s).nonce = s.nonce := rfl
@[simp] theorem construct_dataIn (v : Variant) (b : Bool) : (construct v b s).dataIn = s.dataIn := rfl
@[simp] theorem construct_id (v : Variant) (b : Bool) : (construct v b s).id = s.id := rfl
@[simp] theorem construct_cap (v : Variant) (b : Bool) : (construct v b s).cap = s.cap := rfl
@[simp] theorem construct_ctrl (v : Variant) (b : Bool) : (construct v b s).ctrl = s.ctrl := rfl
@[simp] theorem construct_status (v : Variant) (b : Bool) : (construct v b s).status = s.status.latched v b := rfl
@[simp] theorem construct_keyLen (v : Variant) (b : Bool) : (construct v b s).keyLen = s.keyLen := rfl
@[simp] theorem construct_nonceLen (v : Variant) (b : Bool) : (construct v b s).nonceLen = s.nonceLen := rfl
@[simp] theorem construct_seekPos (v : Variant) (b : Bool) : (construct v b s).seekPos = s.seekPos := rfl
@[simp] theorem construct_ksOut (v : Variant) (b : Bool) : (construct v b s).ksOut = s.ksOut := rfl
@[simp] theorem construct_test (v : Variant) (b : Bool) : (construct v b s).test = s.test := rfl
@[simp] theorem construct_pending (v : Variant) (b : Bool) : (construct v b s).pending = s.pending := rfl
@[simp] theorem construct_host (v : Variant) (b : Bool) : (construct v b s).host = s.host := rfl
@[simp] theorem construct_turns (v : Variant) (b : Bool) : (construct v b s).turns = s.turns := rfl
@[simp] theorem construct_responses (v : Variant) (b : Bool) : (construct v b s).responses = s.responses := rfl

@[simp] theorem genEffect_state (x b : Bool) : (genEffect x b s).state = s.state := rfl
@[simp] theorem genEffect_ctr (x b : Bool) : (genEffect x b s).ctr = s.ctr + 1#64 := rfl
@[simp] theorem genEffect_key (x b : Bool) : (genEffect x b s).key = s.key := rfl
@[simp] theorem genEffect_nonce (x b : Bool) : (genEffect x b s).nonce = s.nonce := rfl
@[simp] theorem genEffect_dataIn (x b : Bool) : (genEffect x b s).dataIn = s.dataIn := rfl
@[simp] theorem genEffect_id (x b : Bool) : (genEffect x b s).id = s.id := rfl
@[simp] theorem genEffect_cap (x b : Bool) : (genEffect x b s).cap = s.cap := rfl
@[simp] theorem genEffect_ctrl (x b : Bool) : (genEffect x b s).ctrl = s.ctrl := rfl
@[simp] theorem genEffect_status (x b : Bool) : (genEffect x b s).status = s.status := rfl
@[simp] theorem genEffect_keyLen (x b : Bool) : (genEffect x b s).keyLen = s.keyLen := rfl
@[simp] theorem genEffect_nonceLen (x b : Bool) : (genEffect x b s).nonceLen = s.nonceLen := rfl
@[simp] theorem genEffect_seekPos (x b : Bool) : (genEffect x b s).seekPos = s.seekPos := rfl
@[simp] theorem genEffect_ksOut (x b : Bool) : (genEffect x b s).ksOut = outputBlock x (keystreamBlock (engine b s) s.state s.status.variant.row.keystreamRounds (s.ctr + 1#64)) s.dataIn := rfl
@[simp] theorem genEffect_test (x b : Bool) : (genEffect x b s).test = s.test := rfl
@[simp] theorem genEffect_pending (x b : Bool) : (genEffect x b s).pending = s.pending := rfl
@[simp] theorem genEffect_host (x b : Bool) : (genEffect x b s).host = s.host := rfl
@[simp] theorem genEffect_turns (x b : Bool) : (genEffect x b s).turns = s.turns := rfl
@[simp] theorem genEffect_responses (x b : Bool) : (genEffect x b s).responses = s.responses := rfl

@[simp] theorem hardReset_state : (hardReset s).state = Vector.replicate 16 0#64 := rfl
@[simp] theorem hardReset_ctr : (hardReset s).ctr = 0#64 := rfl
@[simp] theorem hardReset_key : (hardReset s).key = Vector.replicate 16 0#64 := rfl
@[simp] theorem hardReset_nonce : (hardReset s).nonce = Vector.replicate 8 0#64 := rfl
@[simp] theorem hardReset_dataIn : (hardReset s).dataIn = Vector.replicate 8 0#64 := rfl
@[simp] theorem hardReset_id : (hardReset s).id = s.id := rfl
@[simp] theorem hardReset_cap : (hardReset s).cap = s.cap := rfl
@[simp] theorem hardReset_ctrl : (hardReset s).ctrl = 0#3 := rfl
@[simp] theorem hardReset_status : (hardReset s).status = Status.reset := rfl
@[simp] theorem hardReset_keyLen : (hardReset s).keyLen = 0#16 := rfl
@[simp] theorem hardReset_nonceLen : (hardReset s).nonceLen = 0#16 := rfl
@[simp] theorem hardReset_seekPos : (hardReset s).seekPos = 0#64 := rfl
@[simp] theorem hardReset_ksOut : (hardReset s).ksOut = Vector.replicate 8 0#64 := rfl
@[simp] theorem hardReset_test : (hardReset s).test = Vector.replicate 16 0#64 := rfl
@[simp] theorem hardReset_pending : (hardReset s).pending = none := rfl
@[simp] theorem hardReset_host : (hardReset s).host = s.host := rfl
@[simp] theorem hardReset_turns : (hardReset s).turns = s.turns := rfl
@[simp] theorem hardReset_responses : (hardReset s).responses = s.responses := rfl

@[simp] theorem Status.issued_ready : (Status.issued st).ready = st.ready := rfl
@[simp] theorem Status.issued_done : (Status.issued st).done = false := rfl
@[simp] theorem Status.issued_err : (Status.issued st).err = st.err := rfl
@[simp] theorem Status.issued_fatal : (Status.issued st).fatal = st.fatal := rfl
@[simp] theorem Status.issued_token : (Status.issued st).token = st.token := rfl
@[simp] theorem Status.issued_variant : (Status.issued st).variant = st.variant := rfl
@[simp] theorem Status.issued_errCode : (Status.issued st).errCode = st.errCode := rfl

@[simp] theorem Status.completed_ready : (Status.completed st).ready = st.ready := rfl
@[simp] theorem Status.completed_done : (Status.completed st).done = true := rfl
@[simp] theorem Status.completed_err : (Status.completed st).err = st.err := rfl
@[simp] theorem Status.completed_fatal : (Status.completed st).fatal = st.fatal := rfl
@[simp] theorem Status.completed_token : (Status.completed st).token = st.token := rfl
@[simp] theorem Status.completed_variant : (Status.completed st).variant = st.variant := rfl
@[simp] theorem Status.completed_errCode : (Status.completed st).errCode = st.errCode := rfl

@[simp] theorem Status.latched_ready (v : Variant) (b : Bool) : (Status.latched v b st).ready = true := rfl
@[simp] theorem Status.latched_done (v : Variant) (b : Bool) : (Status.latched v b st).done = st.done := rfl
@[simp] theorem Status.latched_err (v : Variant) (b : Bool) : (Status.latched v b st).err = st.err := rfl
@[simp] theorem Status.latched_fatal (v : Variant) (b : Bool) : (Status.latched v b st).fatal = st.fatal := rfl
@[simp] theorem Status.latched_token (v : Variant) (b : Bool) : (Status.latched v b st).token = b := rfl
@[simp] theorem Status.latched_variant (v : Variant) (b : Bool) : (Status.latched v b st).variant = v := rfl
@[simp] theorem Status.latched_errCode (v : Variant) (b : Bool) : (Status.latched v b st).errCode = st.errCode := rfl

@[simp] theorem Status.scrubbed_ready : (Status.scrubbed st).ready = false := rfl
@[simp] theorem Status.scrubbed_done : (Status.scrubbed st).done = st.done := rfl
@[simp] theorem Status.scrubbed_err : (Status.scrubbed st).err = st.err := rfl
@[simp] theorem Status.scrubbed_fatal : (Status.scrubbed st).fatal = st.fatal := rfl
@[simp] theorem Status.scrubbed_token : (Status.scrubbed st).token = false := rfl
@[simp] theorem Status.scrubbed_variant : (Status.scrubbed st).variant = .v512 := rfl
@[simp] theorem Status.scrubbed_errCode : (Status.scrubbed st).errCode = st.errCode := rfl

@[simp] theorem Status.raised_ready (c : ErrCode) : (Status.raised c st).ready = st.ready := rfl
@[simp] theorem Status.raised_done (c : ErrCode) : (Status.raised c st).done = if c = .busy then st.done else true := rfl
@[simp] theorem Status.raised_err (c : ErrCode) : (Status.raised c st).err = true := rfl
@[simp] theorem Status.raised_fatal (c : ErrCode) : (Status.raised c st).fatal = if c = .ctrExhausted then true else st.fatal := rfl
@[simp] theorem Status.raised_token (c : ErrCode) : (Status.raised c st).token = st.token := rfl
@[simp] theorem Status.raised_variant (c : ErrCode) : (Status.raised c st).variant = st.variant := rfl
@[simp] theorem Status.raised_errCode (c : ErrCode) : (Status.raised c st).errCode = c := rfl

@[simp] theorem Status.written_ready (v : Word) : (Status.written v st).ready = st.ready := rfl
@[simp] theorem Status.written_done (v : Word) : (Status.written v st).done = if v.getLsbD 2 then false else st.done := rfl
@[simp] theorem Status.written_err (v : Word) : (Status.written v st).err = if v.getLsbD 3 && !st.fatal then false else st.err := rfl
@[simp] theorem Status.written_fatal (v : Word) : (Status.written v st).fatal = st.fatal := rfl
@[simp] theorem Status.written_token (v : Word) : (Status.written v st).token = st.token := rfl
@[simp] theorem Status.written_variant (v : Word) : (Status.written v st).variant = st.variant := rfl
@[simp] theorem Status.written_errCode (v : Word) : (Status.written v st).errCode = if v.getLsbD 3 && !st.fatal then .none else st.errCode := rfl

@[simp] theorem busy_eq : s.busy = s.pending.isSome := rfl

end Sys2Proof.Machine
end

