-- ==== Sys2Proof/Laws/Ops.lean ====
section
/-! SUPPORT. One lemma for each shared operation that says once everything it can do: the command lifecycle, exec, issue, a host access, a move
of each agent, a step. Later proofs cite these instead of unfolding the operations. -/

namespace Sys2Proof.Laws

open Sys2Proof.Machine

/-- R239: only ZEROIZE runs under FATAL. -/
def underFatal : Instr → Bool
  | .zeroize => true
  | _ => false

/-- R232 `accept`: the backend bit a command takes at its issue. -/
def backendOf : Instr → State → Bool
  | .gen _ => cachedToken
  | .seek => cachedToken
  | _ => probe

/-- R232: the check of a decoded command. -/
def checkOf : Instr → State → Option ErrCode
  | .init var => initCheck var
  | .gen _ => genCheck
  | .seek => readyCheck
  | _ => noCheck

/-- The results of a command at its completion (R270). -/
def effectOf : Instr → Bool → State → State
  | .nop => fun _ t => t
  | .init var => initEffect var
  | .gen x => genEffect x
  | .seek => fun _ t => { t with ctr := t.seekPos }
  | .zeroize => fun _ t => scrub t
  | .tperm cnt => fun b t => { t with test := (engine b t).rounds cnt.toNat t.test }
  | .tqmix => fun b t => { t with test := (engine b t).quadMixAll t.test }
  | .tdperm => fun b t => { t with test := (engine b t).diagPerm t.test }
  | .tf => fun b t => { t with test := (engine b t).mapF t.test }

/-- Every meaning is the shared lifecycle with its own check, backend bit and effect. -/
theorem exec_eq_command (i : Instr) (s : State) :
    exec i s = command i (underFatal i) (backendOf i) (checkOf i) (effectOf i) s := by
  cases i <;> rfl

variable {i : Instr} {s t : State}

/-- Completion: with a command in flight, exec is its effect and the end of BUSY. -/
theorem exec_inFlight (i : Instr) {s : State} {p : Pending} (h : s.pending = some p) :
    exec i s = .next (finish (effectOf i p.backend s)) := by
  simp [exec_eq_command, command, h]

/-- Issue: ignored under FATAL, rejected by its check, or accepted. -/
theorem exec_idle (i : Instr) {s : State} (h : s.pending = none) :
    exec i s =
      if s.status.fatal && !underFatal i then .next s
      else
        match checkOf i s with
        | some code => .next (takeError code s)
        | none => .next (accept (encode i) (backendOf i s) s) := by
  rw [exec_eq_command]
  simp only [command, h]
  all_goals rfl

/-- Everything a command can do: complete, be ignored under FATAL, be rejected, be accepted. -/
theorem exec_cases (h : exec i s = .next t) :
    (∃ p, s.pending = some p ∧ t = finish (effectOf i p.backend s)) ∨
      (s.pending = none ∧ s.status.fatal = true ∧ underFatal i = false ∧ t = s) ∨
      (s.pending = none ∧ ¬(s.status.fatal = true ∧ underFatal i = false) ∧
        ∃ code, checkOf i s = some code ∧ t = takeError code s) ∨
      (s.pending = none ∧ ¬(s.status.fatal = true ∧ underFatal i = false) ∧ checkOf i s = none ∧
        t = accept (encode i) (backendOf i s) s) := by
  cases hp : s.pending with
  | some p =>
    rw [exec_inFlight i hp] at h
    exact .inl ⟨p, rfl, by simpa using h.symm⟩
  | none =>
    rw [exec_idle i hp] at h
    split at h
    · next hf => simp only [Bool.and_eq_true, Bool.not_eq_true'] at hf; exact .inr (.inl ⟨rfl, hf.1, hf.2, by simpa using h.symm⟩)
    · next hf =>
      simp only [Bool.and_eq_true, Bool.not_eq_true'] at hf
      split at h
      · next code hc => exact .inr (.inr (.inl ⟨rfl, hf, code, hc, by simpa using h.symm⟩))
      · next hc => exact .inr (.inr (.inr ⟨rfl, hf, hc, by simpa using h.symm⟩))

/-- A meaning always answers a next state: errors are reported in STATUS, they stop nothing (R230, R243). -/
theorem exec_next (i : Instr) (s : State) : ∃ t, exec i s = .next t := by
  cases hp : s.pending with
  | some p => exact ⟨_, exec_inFlight i hp⟩
  | none =>
    rw [exec_idle i hp]
    split
    · exact ⟨_, rfl⟩
    · split <;> exact ⟨_, rfl⟩

/-- R232: everything `issue` can do. -/
theorem issue_cases {c : CmdWord} (h : issue c s = .next t) :
    (s.status.fatal = true ∧ t = s) ∨
      (s.status.fatal = false ∧ (∃ p, s.pending = some p) ∧ t = takeError .busy s) ∨
      (s.status.fatal = false ∧ s.pending = none ∧ (∃ e, decode c = .error e) ∧ t = takeError .illegalCmd s) ∨
      (s.pending = none ∧ (s.status.fatal = true → c = zeroizeWord) ∧ ∃ i, decode c = .ok i ∧ exec i s = .next t) := by
  unfold issue at h
  split at h
  · next hf => simp at hf; exact .inl ⟨hf.1, by simpa using h.symm⟩
  · next hf =>
    simp only [busy_eq, Bool.and_eq_true, Bool.or_eq_true, bne_iff_ne, not_and, not_or, not_not] at hf
    split at h
    · next hb =>
      have hb' : s.pending.isSome = true := by simpa using hb
      have hff : s.status.fatal = false := by
        cases hs : s.status.fatal with
        | false => rfl
        | true => exact absurd hb' (hf hs).1
      exact .inr (.inl ⟨hff, Option.isSome_iff_exists.mp hb', by simpa using h.symm⟩)
    · next hb =>
      have hp : s.pending = none := by simpa using hb
      split at h
      · next e he =>
        have hff : s.status.fatal = false := by
          cases hs : s.status.fatal with
          | false => rfl
          | true =>
            rw [(hf hs).2, show decode zeroizeWord = .ok .zeroize from rfl] at he
            cases he
        exact .inr (.inr (.inl ⟨hff, hp, ⟨e, he⟩, by simpa using h.symm⟩))
      · next i hi => exact .inr (.inr (.inr ⟨hp, fun hs => (hf hs).2, i, hi, h⟩))

/-- A command word written to CMD always leads to a next state. -/
theorem issue_next (c : CmdWord) (s : State) : ∃ t, issue c s = .next t := by
  unfold issue
  split
  · exact ⟨_, rfl⟩
  · split
    · exact ⟨_, rfl⟩
    · split
      · exact ⟨_, rfl⟩
      · exact exec_next _ _

/-- R67: everything a legal host write can do. -/
theorem memWrite_cases {off : Offset} {size : Nat} {v : Word} (h : memWrite off size v s = .next t) :
    t = s ∨ (regAt off = .cmd ∧ issue (v.setWidth 32) s = .next t) ∨
      (regAt off = .status ∧ t = statusWrite ((v.setWidth 32).setWidth 64) s) ∨
      (regAt off = .ctrl ∧ t = { s with ctrl := (writeValue off size v (current .ctrl s)).setWidth 3 }) ∨
      (s.pending = none ∧ t = writeOperand (regAt off) (writeValue off size v (current (regAt off) s)) s) := by
  unfold memWrite at h
  split at h
  · next hr =>
    split at h
    · exact .inr (.inl ⟨hr, h⟩)
    · exact .inl (by simpa using h.symm)
  · next hr =>
    split at h
    · exact .inr (.inr (.inl ⟨hr, by simpa using h.symm⟩))
    · exact .inl (by simpa using h.symm)
  · next hr => exact .inr (.inr (.inr (.inl ⟨hr, by simpa using h.symm⟩)))
  · split at h
    · exact .inl (by simpa using h.symm)
    · next hb => exact .inr (.inr (.inr (.inr ⟨by simpa using hb, by simpa using h.symm⟩)))

/-- A legal host write always leads to a next state. -/
theorem memWrite_next (off : Offset) (size : Nat) (v : Word) (s : State) : ∃ t, memWrite off size v s = .next t := by
  unfold memWrite
  split
  · split
    · exact issue_next _ _
    · exact ⟨_, rfl⟩
  · split <;> exact ⟨_, rfl⟩
  · exact ⟨_, rfl⟩
  · split <;> exact ⟨_, rfl⟩

/-- A host access always leads to a next state. -/
theorem hostMove_next (s : State) : ∃ t, hostMove s = .next t := by
  unfold hostMove
  split
  · exact ⟨_, rfl⟩
  · unfold hostRead; split <;> exact ⟨_, rfl⟩
  · unfold hostWrite
    split
    · exact memWrite_next _ _ _ _
    · exact ⟨_, rfl⟩
  · exact ⟨_, rfl⟩
  · exact ⟨_, rfl⟩

/-- R270: a step is one agent's move, after the turn is taken. -/
theorem step_eq (s : State) :
    step s =
      match mover s with
      | .host => hostMove { s with turns := s.turns.tail }
      | .core => coreMove { s with turns := s.turns.tail } := by
  unfold step move mover
  cases ht : s.turns with
  | nil =>
    have e : { s with turns := [] } = s := by rw [← ht]
    cases hb : s.busy <;> simp [e]
  | cons x r => cases x <;> simp

/-- A step that is the host's is its move, after the turn is taken. -/
theorem step_host {s t : State} (hm : mover s = .host) (hs : step s = .next t) : hostMove {s with turns := s.turns.tail} = .next t := by
  rw [step_eq, hm] at hs; exact hs

/-- A step that is the sequencer's is its move, after the turn is taken. -/
theorem step_core {s t : State} (hm : mover s = .core) (hs : step s = .next t) : coreMove {s with turns := s.turns.tail} = .next t := by
  rw [step_eq, hm] at hs; exact hs

/-- Everything a step can do: complete the command in flight, reset, make a legal host write, or change only the host's moves, the responses
and the turns. -/
theorem step_cases {s t : State} (hs : step s = .next t) :
    (∃ p i, mover s = .core ∧ s.pending = some p ∧ decode p.word = .ok i ∧ completes s = some i ∧ hostActs s = none ∧
        t = { finish (effectOf i p.backend s) with turns := s.turns.tail }) ∨
      (hostActs s = some .reset ∧ mover s = .host ∧ t = hardReset { s with host := s.host.tail, turns := s.turns.tail }) ∨
      (∃ off size v, mover s = .host ∧ completes s = none ∧ hostActs s = some (.write off size v) ∧ legalAccess off size = true ∧
        memWrite off size v { s with host := s.host.tail, turns := s.turns.tail } = .next t) ∨
      (completes s = none ∧ hostActs s ≠ some .reset ∧
        ∃ h r, t = { s with host := h, responses := r, turns := s.turns.tail } ∧ ∀ op ∈ h, op ∈ s.host) := by
  cases hm : mover s with
  | host =>
    have h := step_host hm hs
    have hc : completes s = none := by simp [completes, hm]
    have ha : hostActs s = s.host.head? := by simp [hostActs, hm]
    rw [ha]
    unfold hostMove at h
    split at h <;> rename_i he
    · cases h; simp only [] at he
      exact .inr (.inr (.inr ⟨hc, by simp [he], s.host, s.responses, rfl, fun _ h => h⟩))
    · simp only [] at he
      unfold hostRead at h; split at h <;> cases h <;>
      exact .inr (.inr (.inr ⟨hc, by simp [he], _, _, rfl, by simp [he]; intro a ha; exact .inr ha⟩))
    · simp only [] at he
      unfold hostWrite at h; split at h
      · next hl => exact .inr (.inr (.inl ⟨_, _, _, rfl, hc, by rw [he]; rfl, hl, by rw [he]; exact h⟩))
      · cases h
        exact .inr (.inr (.inr ⟨hc, by simp [he], _, _, rfl, by simp [he]; intro a ha; exact .inr ha⟩))
    · simp only [] at he
      unfold hostWait at h
      cases h
      split
      · exact .inr (.inr (.inr ⟨hc, by simp [he], _, _, rfl, by simp [he, record]⟩))
      · exact .inr (.inr (.inr ⟨hc, by simp [he], _, _, rfl, by simp [he]; intro a ha; exact .inr ha⟩))
    · simp only [] at he
      cases h
      exact .inr (.inl ⟨by simp [he], rfl, by simp [he]⟩)
  | core =>
    have h := step_core hm hs
    have ha : hostActs s = none := by simp [hostActs, hm]
    unfold coreMove at h
    split at h <;> rename_i hp
    · cases h; simp only [] at hp
      exact .inr (.inr (.inr ⟨by simp [completes, hm, hp], by simp [ha], s.host, s.responses, rfl, fun _ h => h⟩))
    · simp only [] at hp
      rename_i p
      split at h <;> rename_i hd
      · rw [exec_inFlight _ (by exact hp)] at h
        cases h
        refine .inl ⟨p, _, rfl, hp, hd, by simp [completes, hm, hp, hd], ha, ?_⟩
        rename_i i
        cases i <;> try rfl
        simp only [effectOf, initEffect]; split <;> rfl
      · cases h

end Sys2Proof.Laws
end

