-- ==== Sys2Proof/Laws/PerInstr.lean ====
section
/-! SUPPORT. Statements about every command as syntax, one lemma per constructor. -/

/-- R90, R92: the word of a command carries the command's opcode in its OPC field. -/
def Sys2Proof.Laws.OpcField.Statement (i : Sys2Proof.Instr) : Prop :=
  Sys2Proof.opcField (Sys2Proof.encode i) = i.opc

namespace Sys2Proof.Laws.OpcField

theorem nop : Statement .nop := by unfold Statement; decide

theorem init (var : BitVec 2) : Statement (.init var) := by unfold Statement; decide +revert

theorem gen (x : Bool) : Statement (.gen x) := by unfold Statement; decide +revert

theorem seek : Statement .seek := by unfold Statement; decide

theorem zeroize : Statement .zeroize := by unfold Statement; decide

theorem tperm (cnt : BitVec 16) : Statement (.tperm cnt) := by
  unfold Statement opcField encode Instr.operandBits Instr.opc
  ext k hk
  simp only [BitVec.getElem_extractLsb', BitVec.getLsbD_or, BitVec.getLsbD_shiftLeft, BitVec.getLsbD_setWidth]
  simp [show k < 32 by omega, show k < 16 by omega, BitVec.getLsbD_eq_getElem hk]

theorem tqmix : Statement .tqmix := by unfold Statement; decide

theorem tdperm : Statement .tdperm := by unfold Statement; decide

theorem tf : Statement .tf := by unfold Statement; decide

end Sys2Proof.Laws.OpcField
end

