-- ==== Sys2Proof/Tests/Slice0.lean ====
section
/-! SUPPORT. Our own tests: ill-formed terms, words written out from 30_encoding.md, values of 95_test_vectors.md and of the rules' own examples,
one step each; then a witness for every obligation with hypotheses. Expected values come from spec/, never from the model. -/

namespace Sys2Proof.Tests

set_option Elab.async false

open Sys2Proof.Machine Sys2Proof.Claims

/-- The outcome is a next state that passes the check. -/
def answers (o : Outcome) (p : State → Bool) : Bool :=
  match o with
  | .next t => p t
  | .fault _ => false
  | .refused _ => false

theorem reaches {o : Outcome} {P : State → Prop} [DecidablePred P] (h : answers o (fun t => decide (P t)) = true) :
    ∃ t, o = .next t ∧ P t := by
  cases o with
  | next t => exact ⟨t, rfl, of_decide_eq_true h⟩
  | fault f => cases h
  | refused r => cases h

/-- What STATUS reads. -/
def statusOf (s : State) : Word := memRead 0x020#10 8 s

/-- 95: the core of the vectors, VEC_PRESENT = 1 and VEC_LANES = 4, right after reset. -/
def base : State := { State.reset with cap := .lanes4 }

/-- 95: `[0..15]`. -/
def ramp : Block := Vector.ofFn fun i => BitVec.ofNat 64 i

/-- 95: the words of bytes first, first + 1, ... -/
def byteRamp (first : Word) (i : Nat) : Word := first + BitVec.ofNat 64 i * 0x0808080808080808#64

/-- 95: KEY[0..15] of I-1024; its first eight words are I-512's. -/
def key1024 : Block := Vector.ofFn fun i => byteRamp 0x0706050403020100#64 i

/-- 95: the nonce of I-512. -/
def nonce512 : KeyBlock := Vector.ofFn fun j => byteRamp 0x4746454443424140#64 j

/-- 95: the nonce of I-1024. -/
def nonce1024 : KeyBlock := Vector.ofFn fun j => byteRamp 0x8786858483828180#64 j

/-- 95 S-1: STATE of I-512. -/
def s1 : Block :=
  #v[0xEA286324308F60BA#64, 0x55B1F61593676845#64, 0xB8C2D61D2126A166#64, 0xCA6977BD7E54F0A9#64,
     0x1A1E59870F8872D4#64, 0xDC48BDEB7ABA00AF#64, 0x136AD027B1674905#64, 0x55806EE480F8E240#64,
     0x7087E19A3F11FD2E#64, 0xFE6A4AA3BA19D817#64, 0xD4EF8BFF4A787174#64, 0xE407F2020B30C7BC#64,
     0x5F35A386D0A14F5A#64, 0x6733695DE2362884#64, 0x92E709AA0C222CA0#64, 0xCB4BFF5C00B88826#64]

/-- 95 S-2: STATE of I-1024. -/
def s2 : Block :=
  #v[0x9D0CDFB54CD02454#64, 0x85788E7AA56A27C0#64, 0xF18E690F64F07EA9#64, 0x769F71BA9701435B#64,
     0x281C5A295C3D0004#64, 0xAF732F684294299F#64, 0x42AB7C8771BAAB1F#64, 0x7F1FE262A37395BB#64,
     0xF8963ED2D3A39E33#64, 0xBFC762D50D54E0D2#64, 0x676A0AA54C9323A8#64, 0x49C4FA56E6C18F6D#64,
     0xE68760C26048E327#64, 0x18453CBA43BA4A6D#64, 0x29DF44C18B1DDC96#64, 0x53F854B5EE86712B#64]

/-- 95 T-1: Round([0..15]). -/
def t1 : Block :=
  #v[0x0000000000000006#64, 0x000000000000000E#64, 0x008010801004108A#64, 0x008010801004108F#64,
     0x000000000000000E#64, 0x0000000000000006#64, 0x008010801004108E#64, 0x0080108010041083#64,
     0x0000000000000006#64, 0x000000000000001E#64, 0x0080108010041082#64, 0x0080108010041087#64,
     0x000000000000001E#64, 0x0000000000000006#64, 0x0080108010041086#64, 0x008010801004108B#64]

/-- 95 K-1: the first block of I-512. -/
def k1 : KeyBlock :=
  #v[0x734C097F3BDAC5E0#64, 0x7A7EBE3E8FBD8DE3#64, 0x5879B9FF5C52A9A3#64, 0x96A758C30CA9DC83#64,
     0xD7338EC21A7F00B9#64, 0x60D67EFD0338C961#64, 0x21AADD8826A6C342#64, 0x66ABE56C16EC1755#64]

/-- An idle core whose operand registers hold I-512's inputs, with no instance. -/
def loaded : State := { base with key := key1024, nonce := nonce512, keyLen := 64#16, nonceLen := 64#16 }

/-- The instance I-512 right after its INIT, DONE cleared. -/
def live : State := { loaded with state := s1, status := { loaded.status with ready := true, token := true } }

/-- 95 K-4's CTR: the counter has reached its last value. -/
def spent : State := { live with ctr := 0xFFFFFFFFFFFFFFFF#64, status := { live.status with done := true } }

/-- 95 E-14: the fatal state. -/
def dead : State :=
  { spent with status := { spent.status with fatal := true, err := true, errCode := .ctrExhausted } }

/-- The state with a command in flight. -/
def flying (i : Instr) (b : Bool) (s : State) : State :=
  { s with pending := some { word := encode i, backend := b }, status := { s.status with done := false } }

/-- The next step is this move of the host's. -/
def hostWill (op : HostOp) (s : State) : State := { s with host := [op], turns := [.host] }

/-! ### Well-formedness and decoding -/

theorem test_reserved_variant_ill_formed : (Instr.init 0b10#2).wellFormed = false ∧ (Instr.init 0b11#2).wellFormed = false := by decide

/-- R91 bit by bit: CNT = 0x0003 | ARG 0 | OPC 0x10; ARG 0b01 | OPC 0x01; X = 1 | OPC 0x02. -/
theorem test_decode_operand_fields :
    decode 0b00000000000000110000000000010000#32 = .ok (.tperm 3#16) ∧
      decode 0b00000000000000000000000100000001#32 = .ok (.init 0b01#2) ∧
      decode 0b00000000000000000000000100000010#32 = .ok (.gen true) := by decide

/-- R92: the commands without operand bits, in the table's order. -/
theorem test_decode_plain :
    decode 0x00000000#32 = .ok .nop ∧ decode 0x00000001#32 = .ok (.init 0b00#2) ∧ decode 0x00000002#32 = .ok (.gen false) ∧
      decode 0x00000003#32 = .ok .seek ∧ decode 0x00000004#32 = .ok .zeroize ∧ decode 0x00000011#32 = .ok .tqmix ∧
      decode 0x00000012#32 = .ok .tdperm ∧ decode 0x00000013#32 = .ok .tf ∧ decode 0xFFFF0010#32 = .ok (.tperm 0xFFFF#16) := by decide

/-- 95 E-2 to E-6, E-8, E-10 and the decode vectors after them. -/
theorem test_decode_illegal :
    decode 0x00000100#32 = .error .reservedBit ∧ decode 0x80000000#32 = .error .reservedBit ∧
      decode 0x00000201#32 = .error .reservedVar ∧ decode 0x00000301#32 = .error .reservedVar ∧
      decode 0x00000401#32 = .error .reservedBit ∧ decode 0x00000202#32 = .error .reservedBit ∧
      decode 0x00000005#32 = .error .unassignedOpc ∧ decode 0x0000000F#32 = .error .unassignedOpc ∧
      decode 0x00000014#32 = .error .unassignedOpc ∧ decode 0x000000FF#32 = .error .unassignedOpc ∧
      decode 0x00000103#32 = .error .reservedBit ∧ decode 0x00000104#32 = .error .reservedBit ∧
      decode 0x00000110#32 = .error .reservedBit ∧ decode 0x00000111#32 = .error .reservedBit := by decide

/-- R101's words. -/
theorem test_encode :
    encode (.init 0b01#2) = 0x00000101#32 ∧ encode (.gen true) = 0x00000102#32 ∧ encode (.tperm 3#16) = 0x00030010#32 ∧
      encode .zeroize = 0x00000004#32 ∧ encode .tf = 0x00000013#32 := by decide

/-- R62: the first byte of a word at the lowest address is OPC; three bytes are no word. -/
theorem test_decode_bytes :
    decodeBytes [0x10#8, 0x00#8, 0x03#8, 0x00#8, 0xAA#8] = .ok (.tperm 3#16, [0xAA#8]) ∧
      decodeBytes [0x00#8, 0x00#8, 0x00#8] = .error .tooShort := by decide

/-! ### The permutation -/

/-- 95 F-2, F-3, F-4, F-5, F-10. -/
theorem test_round_primitive :
    roundF 1#64 = 0x0040084008020841#64 ∧ roundF 0x8000000000000000#64 = 0x8020042004010420#64 ∧
      roundF 0xFFFFFFFFFFFFFFFF#64 = 0x0000080008000041#64 ∧ roundF 0x0123456789ABCDEF#64 = 0xC59E097B9B9E0B3B#64 ∧
      roundF 0x801#64 = 0x0082088018441043#64 := by decide +kernel

/-- 95 Q-8. -/
theorem test_quad_mix :
    quadMix 0x0123456789ABCDEF#64 0xFEDCBA9876543210#64 0x0F1E2D3C4B5A6978#64 0x8796A5B4C3D2E1F0#64 =
      { w0 := 0x7206E9F5C3F2A499#64, w1 := 0x994E75E4D582F020#64, w2 := 0x371E151AA92B05E8#64, w3 := 0xCA5BC567461F2B6F#64 } := by
  decide +kernel

/-- The example of R112 and R213, on every datapath. -/
theorem test_quad_mix_all : ∀ e ∈ [Engine.scalar, .vector2, .vector4], e.quadMixAll ramp =
    #v[0x6#64, 0x6#64, 0x0080108010041082#64, 0x0080108010041083#64, 0xE#64, 0xE#64, 0x0080108010041086#64, 0x0080108010041087#64,
       0x6#64, 0x6#64, 0x008010801004108A#64, 0x008010801004108B#64, 0x1E#64, 0x1E#64, 0x008010801004108E#64,
       0x008010801004108F#64] := by decide +kernel

/-- 95 T-1, B-1: one round on every datapath. -/
theorem test_round : ∀ e ∈ [Engine.scalar, .vector2, .vector4], e.rounds 1 ramp = t1 := by decide +kernel

/-- 95 S-1, S-2: the rounds on the pre-round states of R144. -/
theorem test_schedule : permRounds 16 (preRound .v512 key1024 nonce512) = s1 ∧ permRounds 20 (preRound .v1024 key1024 nonce1024) = s2 := by
  decide +kernel

/-! ### The commands, one step each -/

/-- 95 E-1. -/
theorem test_nop_completes : answers (exec .nop (flying .nop true base)) (fun t => statusOf t == 0x04#64) = true := by decide +kernel

/-- 95 S-1: INIT "512" completes with the instance I-512 and STATUS 0x26. -/
theorem test_init_512 :
    answers (exec (.init 0b00#2) (flying (.init 0b00#2) true loaded)) (fun t => t.state == s1 && t.ctr == 0#64 && statusOf t == 0x26#64) =
      true := by decide +kernel

/-- 95 S-2: the fold path on the four-lane datapath, STATUS 0x66. -/
theorem test_init_1024 :
    answers (exec (.init 0b01#2) (flying (.init 0b01#2) true { loaded with nonce := nonce1024, keyLen := 128#16 }))
      (fun t => t.state == s2 && statusOf t == 0x66#64) = true := by decide +kernel

/-- 95 K-1. -/
theorem test_gen : answers (exec (.gen false) (flying (.gen false) true live)) (fun t => t.ksOut == k1 && t.ctr == 1#64) = true := by
  decide +kernel

/-- 95 K-12, words 0 and 7: gen.xor. -/
theorem test_gen_xor :
    answers (exec (.gen true) (flying (.gen true) true
        { live with dataIn := Vector.ofFn fun j => BitVec.ofNat 64 (j + 1) * 0x1111111111111111#64 }))
      (fun t => t.ksOut[0] == 0x625D186E2ACBD4F1#64 && t.ksOut[7] == 0xEE236DE49E649FDD#64) = true := by decide +kernel

/-- 95 SK-5: any position may be set. -/
theorem test_seek :
    answers (exec .seek (flying .seek true { live with seekPos := 0xFFFFFFFFFFFFFFFF#64 }))
      (fun t => t.ctr == 0xFFFFFFFFFFFFFFFF#64 && t.state == s1) = true := by decide +kernel

/-- 95 E-18: ZEROIZE under FATAL is accepted, and completes with STATUS 0x51C and CTR 0. -/
theorem test_zeroize :
    answers (exec .zeroize dead) (fun t => t.pending == some { word := 0x00000004#32, backend := true }) = true ∧
      answers (exec .zeroize (flying .zeroize true dead)) (fun t => statusOf t == 0x51C#64 && t.ctr == 0#64 && t.key[0] == 0#64) = true := by
  decide +kernel

/-- 95 X-1 and X-5: TPERM with CNT 1 and CNT 0. -/
theorem test_tperm :
    answers (exec (.tperm 1#16) (flying (.tperm 1#16) true { base with test := ramp })) (fun t => t.test == t1) = true ∧
      answers (exec (.tperm 0#16) (flying (.tperm 0#16) true { base with test := ramp })) (fun t => t.test == ramp) = true := by
  decide +kernel

/-- 95 X-8's second half: QuadMixAll of [0..15] is DiagPerm's preimage of T-1. -/
theorem test_tqmix :
    answers (exec .tqmix (flying .tqmix false { base with test := ramp })) (fun t => diagPerm t.test == t1) = true := by decide +kernel

/-- 95 D-1, X-7. -/
theorem test_tdperm :
    answers (exec .tdperm (flying .tdperm true { base with test := ramp }))
      (fun t => t.test == #v[0#64, 5#64, 10#64, 15#64, 4#64, 9#64, 14#64, 3#64, 8#64, 13#64, 2#64, 7#64, 12#64, 1#64, 6#64, 11#64]) =
      true := by decide +kernel

/-- 95 X-9, words 1, 4 and 15 of TEST = [0..15] (F is word-linear there: F(i) = i F(1)), and READY stays 0. -/
theorem test_tf :
    answers (exec .tf (flying .tf true { base with test := ramp }))
      (fun t => t.test[1] == 0x0040084008020841#64 && t.test[4] == 0x0100210020082104#64 && t.test[13] == 0x03406B40681A6B4D#64 &&
        !t.status.ready) = true := by decide +kernel

/-! ### Issue and errors -/

/-- 95 E-2, E-4, E-7, E-8, E-9 from reset with both lengths 64. -/
theorem test_rejections :
    ([0x00000100#32, 0x00000201#32, 0x00000002#32, 0x00000202#32, 0x00000003#32].map fun c =>
        answers (issue c { base with keyLen := 64#16, nonceLen := 64#16 }) (fun t => statusOf t == 0x10C#64)) =
      [true, true, false, true, false] ∧
    ([0x00000002#32, 0x00000003#32].map fun c =>
        answers (issue c { base with keyLen := 64#16, nonceLen := 64#16 }) (fun t => statusOf t == 0x30C#64)) = [true, true] := by
  decide +kernel

/-- 95 E-11, E-12. -/
theorem test_size_mismatch :
    answers (issue 0x00000001#32 { base with keyLen := 128#16, nonceLen := 64#16 }) (fun t => statusOf t == 0x40C#64) = true ∧
      answers (issue 0x00000001#32 { base with keyLen := 64#16, nonceLen := 32#16 }) (fun t => statusOf t == 0x40C#64) = true := by
  decide +kernel

/-- 95 E-13: a command while BUSY = 1. -/
theorem test_busy :
    answers (issue 0x00000000#32 (flying (.init 0b01#2) true { base with keyLen := 128#16, nonceLen := 64#16 }))
      (fun t => statusOf t == 0x209#64) = true := by decide +kernel

/-- 95 E-14: the counter is exhausted. -/
theorem test_ctr_exhausted :
    answers (issue 0x00000002#32 spent) (fun t => statusOf t == 0x53E#64 && t.ctr == 0xFFFFFFFFFFFFFFFF#64) = true := by decide +kernel

/-- 95 E-15, E-16, E-17: under FATAL clrerr is ignored, clrdone is not, a SEEK is ignored. -/
theorem test_fatal :
    answers (memWrite 0x020#10 8 0x8#64 dead) (fun t => statusOf t == 0x53E#64) = true ∧
      answers (memWrite 0x020#10 8 0x4#64 dead) (fun t => statusOf t == 0x53A#64) = true ∧
      answers (issue 0x00000003#32 dead) (fun t => t == dead) = true := by decide +kernel

/-- 95 E-19: reset leaves STATUS 0. -/
theorem test_reset : answers (step (hostWill .reset (flying .zeroize true dead))) (fun t => statusOf t == 0#64 && t.ctr == 0#64) = true := by
  decide +kernel

/-! ### The window -/

/-- 95 P-1, B-3: ID and CAP. -/
theorem test_id_cap :
    memRead 0x000#10 8 base = 0x0000000731435359#64 ∧ memRead 0x008#10 8 base = 0x0000000000000341#64 ∧
      memRead 0x008#10 8 { base with cap := .scalarOnly } = 0x0000000000000300#64 := by decide +kernel

/-- R66: KEY reads 0, KS_OUT by halves. -/
theorem test_reads :
    memRead 0x080#10 8 live = 0#64 ∧ memRead 0x180#10 4 { live with ksOut := k1 } = 0x3BDAC5E0#64 ∧
      memRead 0x184#10 4 { live with ksOut := k1 } = 0x734C097F#64 := by decide +kernel

/-- R68: a 32-bit write to the high half of KEY[1] keeps its low half; one to the high half of KEY_LEN is to reserved bits (R65). -/
theorem test_half_write :
    answers (memWrite 0x08C#10 4 0xAABBCCDD#64 live) (fun t => t.key[1] == 0xAABBCCDD0B0A0908#64) = true ∧
      answers (memWrite 0x02C#10 4 0xAABBCCDD#64 live) (fun t => t.keyLen == 64#16) = true := by decide +kernel

/-- R64: an 8-byte access at a 4-aligned offset is no access. -/
theorem test_bus_error :
    answers (hostWrite 0x084#10 8 1#64 live) (fun t => t.key == live.key && sawBusError t) = true := by
  decide +kernel

/-- 95 K-1: the first keystream bytes. -/
theorem test_bytes : (le64Encode k1.toList).take 4 = [0xE0#8, 0xC5#8, 0xDA#8, 0x3B#8] := by decide +kernel

/-- R241: DONE with IE_DONE raises irq, without it not. -/
theorem test_irq : irq { spent with ctrl := 0b010#3 } = true ∧ irq { spent with ctrl := 0b101#3 } = false := by decide +kernel

/-- R102 and 95 P-1: `new v512` is eight KEY words, eight NONCE words, two lengths, INIT and wait; `block` ends with eight reads. -/
theorem test_new_instance :
    ((newInstance .v512 (key1024.toList.take 8) nonce512.toList).drop 15) =
        [.write 0x138#10 8 0x7F7E7D7C7B7A7978#64, .write 0x028#10 8 64#64, .write 0x030#10 8 64#64, .write 0x018#10 4 0x00000001#64, .wait] ∧
      blockOps.length = 10 ∧ blockOps.getLast? = some (.read 0x1B8#10 8) := by decide +kernel

/-- The first instruction after reset: every table word but INIT, GEN and SEEK is in flight after one step; INIT, GEN and SEEK are rejected
(R142, R235: the lengths are 0 and there is no instance). -/
theorem test_first_step :
    ([0x00000000, 0x00000004, 0x00000010, 0x00000011, 0x00000012, 0x00000013].all fun w =>
        answers (step (State.reset.withFetchWord 32 w)) (fun t => t.busy)) = true ∧
    ([0x00000001, 0x00000002, 0x00000003].all fun w =>
        answers (step (State.reset.withFetchWord 32 w)) (fun t => !t.busy && t.status.err)) = true := by decide +kernel

/-! ### Witnesses: states and operands that meet the hypotheses of the obligations -/

theorem loaded_inv : Inv loaded := by
  refine ⟨?_, ?_, ?_, ?_, ?_⟩
  · intro p hp; cases hp
  · exact ⟨by decide, by decide⟩
  · intro _; exact ⟨rfl, rfl, rfl, rfl, rfl⟩
  · intro h; cases h
  · exact ⟨by decide, rfl⟩

/-- A state with GEN in flight that meets the invariant. -/
theorem flying_gen_inv : Inv (flying (.gen false) true live) := by
  refine ⟨?_, ?_, ?_, ?_, ?_⟩
  · intro p hp
    cases hp
    exact ⟨rfl, by decide, .gen false, by decide, by decide, rfl, rfl, by decide⟩
  · exact ⟨by decide, by decide⟩
  · intro h; cases h
  · intro h; cases h
  · exact ⟨by decide, rfl⟩

theorem witness_DecodeOfEncode : (Instr.init 0b01#2).wellFormed = true ∧ (Instr.tperm 0xFFFF#16).wellFormed = true := by decide

theorem witness_FatalFiltersCommands : dead.pending = none ∧ dead.status.fatal = true ∧ Instr.nop ≠ .zeroize := by decide

theorem witness_NotReadyExactlyForGenAndSeek :
    (Listening base ∧ base.status.ready = false) ∧ Instr.nop ≠ .seek ∧ (∀ x, Instr.nop ≠ .gen x) ∧
      ∃ t, exec .nop { base with status := { base.status with err := true, errCode := .notReady } } = .next t ∧
        t.status.errCode = .notReady :=
  ⟨⟨⟨rfl, rfl⟩, rfl⟩, by decide, (by intro x h; cases h), reaches (by decide +kernel)⟩

theorem witness_InitSizeCheck : Listening loaded ∧ Listening base ∧ loaded.keyLen = keyBytes .v512 ∧ base.keyLen ≠ keyBytes .v512 :=
  ⟨⟨rfl, rfl⟩, ⟨rfl, rfl⟩, rfl, by decide⟩

theorem witness_ReservedVariantRejected : Listening loaded ∧ ∀ var ∈ [0b10#2, 0b11#2], var ≠ 0b00#2 ∧ var ≠ 0b01#2 :=
  ⟨⟨rfl, rfl⟩, by decide⟩

theorem witness_ExhaustedCounterIsFatal : Listening spent ∧ spent.status.ready = true ∧ spent.ctr = 0xFFFFFFFFFFFFFFFF#64 :=
  ⟨⟨rfl, rfl⟩, rfl, rfl⟩

/-- For NopRuns, TestCommandsAccepted, TestCommandsRun and the completion halves of the other commands. -/
theorem witness_Runs : Listening base ∧ ∃ p, (flying .nop true base).pending = some p := ⟨⟨rfl, rfl⟩, _, rfl⟩

theorem witness_InitRuns :
    (Listening loaded ∧ loaded.keyLen = keyBytes .v512 ∧ loaded.nonceLen = 64#16) ∧
      (Listening { loaded with keyLen := 128#16 } ∧ { loaded with keyLen := 128#16 }.keyLen = keyBytes .v1024 ∧
        { loaded with keyLen := 128#16 }.nonceLen = 64#16) ∧
      ∃ p, (flying (.init 0b00#2) true loaded).pending = some p :=
  ⟨⟨⟨rfl, rfl⟩, rfl, rfl⟩, ⟨⟨rfl, rfl⟩, rfl, rfl⟩, _, rfl⟩

/-- R162: the last CTR a GEN accepts is 2^64 - 2. -/
theorem witness_GenRuns :
    (Listening live ∧ live.status.ready = true ∧ live.ctr ≠ 0xFFFFFFFFFFFFFFFF#64) ∧
      { live with ctr := 0xFFFFFFFFFFFFFFFE#64 }.ctr ≠ 0xFFFFFFFFFFFFFFFF#64 ∧
      ∃ p, (flying (.gen false) true live).pending = some p :=
  ⟨⟨⟨rfl, rfl⟩, rfl, by decide⟩, by decide, _, rfl⟩

theorem witness_SeekRuns : Listening live ∧ live.status.ready = true ∧ ∃ p, (flying .seek true live).pending = some p :=
  ⟨⟨rfl, rfl⟩, rfl, _, rfl⟩

theorem witness_ZeroizeRuns : live.pending = none ∧ dead.pending = none ∧ ∃ p, (flying .zeroize true dead).pending = some p :=
  ⟨rfl, rfl, _, rfl⟩

/-- Each clause: a command write, a completion, nothing to do for either agent, a read, an illegal and a legal write, wait busy and not. -/
theorem witness_StepRunsDecodedCommand :
    (Listening (hostWill (.write 0x018#10 4 0x1#64) loaded) ∧ mover (hostWill (.write 0x018#10 4 0x1#64) loaded) = .host ∧
        decode ((0x1#64 : Word).setWidth 32) = .ok (.init 0b00#2)) ∧
      (mover (flying .tf true base) = .core ∧ ∃ p, (flying .tf true base).pending = some p ∧ decode p.word = .ok .tf) ∧
      (base.host = [] ∧ base.pending = none) ∧
      (mover { base with turns := [.core] } = .core ∧ { base with turns := [.core] }.pending = none) ∧
      (mover { flying .tf true base with turns := [.host] } = .host ∧ { flying .tf true base with turns := [.host] }.host = []) ∧
      (∀ op ∈ [HostOp.read 0x040#10 8, .write 0x082#10 8 1#64, .write 0x3FC#10 4 1#64, .wait],
        mover (hostWill op base) = .host ∧ (hostWill op base).host = op :: []) ∧
      ((0x3FC#10 : Offset).toNat % 4 = 0 ∧ (0x3F8#10 : Offset).toNat % 8 = 0) ∧
      (∃ t, step (hostWill .wait base) = .next t ∧ t.host = []) ∧
      ∃ t, step (hostWill .wait (flying .tf true base)) = .next t ∧ t.host = [.wait] :=
  ⟨⟨⟨rfl, rfl⟩, rfl, by decide⟩, ⟨rfl, _, rfl, by decide⟩, ⟨rfl, rfl⟩, ⟨rfl, rfl⟩, ⟨rfl, rfl⟩, by decide +kernel, by decide,
    reaches (by decide +kernel), reaches (by decide +kernel)⟩

theorem witness_FetchedWordRunsNext : decodeTableWord 32 0x00000003 = some .seek ∧ decodeTableWord 32 0xFFFF0010 = some (.tperm 0xFFFF#16) := by
  decide

/-- For StepKeepsInvariant, StepNeverStops and IdAndCapAreConstant. -/
theorem witness_StepKeepsInvariant :
    Inv (flying (.gen false) true live) ∧ ∃ t, step (flying (.gen false) true live) = .next t ∧ t.ksOut = k1 :=
  ⟨flying_gen_inv, reaches (by decide +kernel)⟩

theorem witness_ResultRegistersHaveTheirWriters :
    (∃ t, step (flying (.init 0b00#2) true loaded) = .next t ∧ t.state ≠ loaded.state ∧ t.status.ready ≠ loaded.status.ready) ∧
      (∃ t, step (flying (.gen false) true live) = .next t ∧ t.ctr ≠ live.ctr ∧ t.ksOut ≠ live.ksOut) ∧
      (∃ t, step (flying (.tperm 1#16) true { base with test := ramp }) = .next t ∧ t.test ≠ ramp) ∧
      ∃ t, step (hostWill (.write 0x278#10 8 9#64) base) = .next t ∧ t.test ≠ base.test :=
  ⟨reaches (by decide +kernel), reaches (by decide +kernel), reaches (by decide +kernel), reaches (by decide +kernel)⟩

/-- Each register by a host write to its last word, and one by ZEROIZE. -/
theorem witness_OperandRegistersHaveTheirWriters :
    (∃ t, step (hostWill (.write 0x0F8#10 8 9#64) base) = .next t ∧ t.key[15] ≠ base.key[15]) ∧
      (∃ t, step (hostWill (.write 0x138#10 4 9#64) base) = .next t ∧ t.nonce[7] ≠ base.nonce[7]) ∧
      (∃ t, step (hostWill (.write 0x17C#10 4 9#64) base) = .next t ∧ t.dataIn[7] ≠ base.dataIn[7]) ∧
      (∃ t, step (hostWill (.write 0x028#10 8 9#64) base) = .next t ∧ t.keyLen ≠ base.keyLen) ∧
      (∃ t, step (hostWill (.write 0x030#10 4 9#64) base) = .next t ∧ t.nonceLen ≠ base.nonceLen) ∧
      (∃ t, step (hostWill (.write 0x03C#10 4 9#64) base) = .next t ∧ t.seekPos ≠ base.seekPos) ∧
      ∃ t, step (flying .zeroize true loaded) = .next t ∧ t.nonceLen ≠ loaded.nonceLen :=
  ⟨reaches (by decide +kernel), reaches (by decide +kernel), reaches (by decide +kernel), reaches (by decide +kernel),
    reaches (by decide +kernel), reaches (by decide +kernel), reaches (by decide +kernel)⟩

theorem witness_OnlyResetLeavesFatal :
    hostActs (hostWill .reset dead) = some .reset ∧ (hostWill .reset dead).status.fatal = true ∧
      ∃ t, step (hostWill .reset dead) = .next t ∧ t.status.fatal = false :=
  ⟨rfl, rfl, reaches (by decide +kernel)⟩

theorem witness_OnlyExhaustedGenSetsFatal :
    spent.status.fatal = false ∧ ∃ t, step (hostWill (.write 0x018#10 4 0x102#64) spent) = .next t ∧ t.status.fatal = true :=
  ⟨rfl, reaches (by decide +kernel)⟩

theorem witness_InFlightUntouchedByHost :
    mover (hostWill (.write 0x080#10 8 9#64) (flying .tf true base)) = .host ∧
      hostActs (hostWill (.write 0x080#10 8 9#64) (flying .tf true base)) ≠ some .reset ∧
      ∃ t, step (hostWill (.write 0x080#10 8 9#64) (flying .tf true base)) = .next t ∧ t.pending.isSome = true :=
  ⟨rfl, by decide, reaches (by decide +kernel)⟩

theorem witness_AcceptedCommandCompletes :
    Inv { flying (.gen false) true live with host := [.wait, .read 0x040#10 8], turns := List.replicate 2 .host ++ .core :: [] } ∧
      ∀ op ∈ [HostOp.wait, .read 0x040#10 8], op ≠ .reset :=
  ⟨flying_gen_inv, by decide⟩

theorem witness_SecretsDoNotSteer :
    SameButSecrets (flying (.gen false) true live) { flying (.gen false) true live with state := s2, key := ramp } ∧
      (∃ t, step (flying (.gen false) true live) = .next t ∧ t.ctr = 1#64) ∧
      ∃ t, step { flying (.gen false) true live with state := s2, key := ramp } = .next t ∧ t.ctr = 1#64 :=
  ⟨⟨s2, ramp, _, _, _, _, _, rfl⟩, reaches (by decide +kernel), reaches (by decide +kernel)⟩

/-- R63: 8 bytes at a 4-aligned offset, 4 bytes at a 2-aligned one, a byte. -/
theorem witness_IllegalAccessHasNoEffect :
    ∀ a ∈ [((0x3FC#10 : Offset), 8), (0x002#10, 4), (0x000#10, 1)],
      ¬((a.2 = 8 ∧ a.1.toNat % 8 = 0) ∨ (a.2 = 4 ∧ a.1.toNat % 4 = 0)) := by decide

theorem witness_LegalReadHasNoSideEffect : (0x3F8#10 : Offset).toNat % 8 = 0 ∧ (0x3FC#10 : Offset).toNat % 8 = 4 := by decide

/-- R61: the edges of the reserved ranges and of their neighbours. -/
theorem witness_RegisterMap :
    ((0x047#10 : Offset).toNat < 0x048 ∧ regAt 0x047#10 = .ctr ∧ regAt 0x048#10 = .reserved ∧ regAt 0x07F#10 = .reserved ∧
      regAt 0x080#10 = .key 0 ∧ regAt 0x1BF#10 = .ksOut 7 ∧ regAt 0x1C0#10 = .reserved ∧ regAt 0x1FF#10 = .reserved ∧
      regAt 0x200#10 = .test 0 ∧ regAt 0x27F#10 = .test 15 ∧ regAt 0x280#10 = .reserved ∧ regAt 0x3FF#10 = .reserved) := by decide +kernel

/-- For RegisterWriteStores and TwoHalfWritesMakeAWord. -/
theorem witness_RegisterWriteStores : live.pending = none ∧ (flying .nop true live).pending ≠ none := by decide

theorem witness_BusyDropsOperandWrites :
    (∃ p, (flying .tf true base).pending = some p) ∧ (flying .tf true base).status.fatal = false ∧
      regAt 0x028#10 = .keyLen ∧ regAt 0x0F8#10 = .key 15 ∧ regAt 0x138#10 = .nonce 7 ∧ regAt 0x178#10 = .dataIn 7 ∧
      regAt 0x278#10 = .test 15 :=
  ⟨⟨_, rfl⟩, rfl, by decide +kernel⟩

theorem witness_ReadOnlyIgnoresWrites :
    regAt 0x000#10 ∈ [Reg.id, .cap, .ctr, .reserved] ∧ regAt 0x044#10 ∈ [Reg.id, .cap, .ctr, .reserved] ∧
      regAt 0x3F8#10 ∈ [Reg.id, .cap, .ctr, .reserved] ∧ regAt 0x1B8#10 = .ksOut 7 := by decide +kernel

theorem witness_WindowAddresses : windowOffset (hostAddress 0x3FF#10) = some 0x3FF#10 := by simp [windowOffset, hostAddress]

theorem witness_LittleEndianBytes : [0x00#8, 0x01#8, 0x02#8, 0x03#8, 0x04#8, 0x05#8, 0x06#8, 0x07#8].length % 8 = 0 ∧
    [5#64, 7#64][1]? = some 7#64 ∧ 7 < 8 := by decide

theorem witness_QuadMixSplitsIntoPairs : ∃ x0 x1 x2 x3 : Word, x0 = x2 ∧ x1 = x3 ∧ x0 ≠ x1 := ⟨1#64, 2#64, 1#64, 2#64, by decide⟩

/-- Two states that agree on one group and differ outside it. -/
theorem witness_WordGroupsStayApart :
    AgreeOn (wordGroup (sourceGroup 1)) ramp (ramp.set 12 99#64) ∧ AgreeOn (wordGroup 1) ramp (ramp.set 12 99#64) ∧
      ramp ≠ ramp.set 12 99#64 ∧ 8 % 2 = 0 := by
  unfold AgreeOn
  decide +kernel

theorem witness_NoTraceOfTheBackend :
    SameButBackend live { live with cap := .scalarOnly, ctrl := 1#3, status := { live.status with token := false } } ∧
      (∃ t, exec (.gen false) live = .next t ∧ t.busy = true) ∧
      ∃ t, exec (.gen false) { live with cap := .scalarOnly, ctrl := 1#3, status := { live.status with token := false } } = .next t ∧
        t.busy = true :=
  ⟨⟨⟨.scalarOnly, 1#3, false, rfl⟩, rfl⟩, reaches (by decide +kernel), reaches (by decide +kernel)⟩

theorem witness_LatencyIsDataIndependent : live.status.variant = base.status.variant ∧ live.state ≠ base.state ∧ ∀ x, Instr.tf ≠ .gen x :=
  ⟨rfl, by decide +kernel, by intro x h; cases h⟩

theorem witness_DeadInputWords : ∃ p, (flying (.init 0b01#2) true loaded).pending = some p := ⟨_, rfl⟩

/-- R149: keys and nonces that differ, with the same XOR. -/
theorem witness_FoldCollisions :
    (∃ p, (flying (.init 0b01#2) true loaded).pending = some p) ∧
      (∀ j : Fin 8, (key1024.set 0 (key1024[0] ^^^ 1#64))[j.val] ^^^ (nonce512.set 0 (nonce512[0] ^^^ 1#64))[j.val] =
        loaded.key[j.val] ^^^ loaded.nonce[j.val]) ∧
      (∀ i : Fin 16, 8 ≤ i.val → (key1024.set 0 (key1024[0] ^^^ 1#64))[i] = loaded.key[i]) ∧
      key1024.set 0 (key1024[0] ^^^ 1#64) ≠ loaded.key :=
  ⟨⟨_, rfl⟩, by decide +kernel⟩

/-- Group 2 holds NONCE[4]'s dead word 12 and KEY[4], KEY[6]: keys that differ in KEY[0] agree on it. -/
theorem witness_ScheduleKeepsGroupsApart :
    AgreeOn (wordGroup 2) (preRoundTable .v512 key1024 nonce512) (preRoundTable .v512 (key1024.set 0 1#64) nonce512) ∧
      preRoundTable .v512 key1024 nonce512 ≠ preRoundTable .v512 (key1024.set 0 1#64) nonce512 := by
  unfold AgreeOn
  decide +kernel

theorem witness_ZeroInputStaysZero :
    (∀ i ∈ wordGroup 1, (preRoundTable .v512 ((Vector.replicate 16 0#64).set 0 1#64) (Vector.replicate 8 0#64))[i] = 0#64) ∧
      preRoundTable .v1024 (Vector.replicate 16 0#64) (Vector.replicate 8 0#64) = Vector.replicate 16 0#64 := by decide +kernel

theorem witness_CounterReachesTwoWordsOnly :
    (0 : Fin 8) ≠ 4 ∧ (7 : Fin 8) ≠ 6 ∧ (31 < 32 ∨ (40 ≤ 31 ∧ 31 < 48) ∨ (56 ≤ 31 ∧ 31 < 64)) ∧
      (47 < 32 ∨ (40 ≤ 47 ∧ 47 < 48) ∨ (56 ≤ 47 ∧ 47 < 64)) := by decide

theorem witness_NoBlockForCounterZero :
    Inv (flying (.gen false) true live) ∧ completes (flying (.gen false) true live) = some (.gen false) ∧
      ∃ t, step (flying (.gen false) true live) = .next t ∧ t.ctr = 1#64 :=
  ⟨flying_gen_inv, by decide, reaches (by decide +kernel)⟩

theorem witness_SeekLaw : Listening live ∧ live.status.ready = true ∧ live.ctr = 0#64 ∧ 0 < 2 ^ 64 - 1 ∧ 2 ^ 64 - 2 < 2 ^ 64 - 1 :=
  ⟨⟨rfl, rfl⟩, rfl, rfl, by decide, by decide⟩

theorem witness_XorInvolution : Listening live ∧ CanGenerate live := ⟨⟨rfl, rfl⟩, rfl, by decide⟩

/-- R173: two histories, the same inputs. -/
theorem witness_KeystreamIsDetermined :
    Listening live ∧ Listening loaded ∧ live.key = loaded.key ∧ live.nonce = loaded.nonce ∧ live.keyLen = loaded.keyLen ∧
      live.nonceLen = loaded.nonceLen ∧ live.keyLen = keyBytes .v512 ∧ live.nonceLen = 64#16 ∧ live ≠ loaded :=
  ⟨⟨rfl, rfl⟩, ⟨rfl, rfl⟩, rfl, rfl, rfl, rfl, rfl, rfl, by decide +kernel⟩

end Sys2Proof.Tests
end

/-! PROOFS. The family 00_scope.md. First the layer of facts its statements share: byte strings (R9), the places of the registers in the
window (R61), STATUS bit by bit (R30), and the datapaths, each of which computes the functions of 40_permutation.md (R200). Then the
statements. -/

namespace Sys2Proof.Proofs

open Sys2Proof.Machine Sys2Proof.Laws Sys2Proof.Claims

/-! ### Byte strings (R9) -/

@[simp] theorem length_wordBytes (w : Word) : (wordBytes w).length = 8 := rfl

theorem getElem?_wordBytes (w : Word) {k : Nat} (hk : k < 8) : (wordBytes w)[k]? = some (wordByte w k) := by
  have hmap : wordBytes w = (List.range 8).map (wordByte w) := rfl
  rw [hmap, List.getElem?_map, List.getElem?_range hk, Option.map_some]

/-- R62: a word is its eight bytes, the highest first. -/
theorem append_wordByte (w : Word) :
    wordByte w 7 ++ wordByte w 6 ++ wordByte w 5 ++ wordByte w 4 ++ wordByte w 3 ++ wordByte w 2 ++ wordByte w 1 ++ wordByte w 0 = w := by
  unfold wordByte
  iterate 7 rw [BitVec.extractLsb'_append_extractLsb'_eq_extractLsb' (by decide)]
  exact BitVec.extractLsb'_eq_self

/-- R62: eight bytes put together, the highest first, are the bytes of the word they give. -/
theorem wordBytes_append (b0 b1 b2 b3 b4 b5 b6 b7 : Byte) :
    wordBytes (b7 ++ b6 ++ b5 ++ b4 ++ b3 ++ b2 ++ b1 ++ b0) = [b0, b1, b2, b3, b4, b5, b6, b7] := by
  simp (disch := decide) only [wordBytes, wordByte, BitVec.extractLsb'_append_eq_of_le, BitVec.extractLsb'_append_eq_of_add_le]
  simp

theorem le64Encode_cons (w : Word) (ws : List Word) : le64Encode (w :: ws) = wordBytes w ++ le64Encode ws := rfl

theorem le64Decode_wordBytes_append (w : Word) (bs : List Byte) : le64Decode (wordBytes w ++ bs) = w :: le64Decode bs :=
  congrArg (· :: le64Decode bs) (append_wordByte w)

theorem le64Decode_le64Encode (ws : List Word) : le64Decode (le64Encode ws) = ws := by
  induction ws with
  | nil => rfl
  | cons w ws ih => rw [le64Encode_cons, le64Decode_wordBytes_append, ih]

theorem le64Encode_le64Decode {bs : List Byte} (h : bs.length % 8 = 0) : le64Encode (le64Decode bs) = bs := by
  induction bs using le64Decode.induct with
  | case1 b0 b1 b2 b3 b4 b5 b6 b7 rest ih =>
    have hrest : rest.length % 8 = 0 := by simp only [List.length_cons] at h; omega
    rw [le64Decode, le64Encode_cons, wordBytes_append, ih hrest]
    rfl
  | case2 bs hshort =>
    match bs with
    | [] => rfl
    | [_] | [_, _] | [_, _, _] | [_, _, _, _] | [_, _, _, _, _] | [_, _, _, _, _, _] | [_, _, _, _, _, _, _] => simp at h
    | _ :: _ :: _ :: _ :: _ :: _ :: _ :: _ :: _ => exact (hshort _ _ _ _ _ _ _ _ _ rfl).elim

/-- R9: byte 8i + k of an encoding is byte k of word i. -/
theorem getElem?_le64Encode (ws : List Word) (i : Nat) {k : Nat} (hk : k < 8) :
    (le64Encode ws)[8 * i + k]? = ws[i]?.map fun w => wordByte w k := by
  induction ws generalizing i with
  | nil => rfl
  | cons w ws ih =>
    rw [le64Encode_cons]
    cases i with
    | zero =>
      rw [Nat.mul_zero, Nat.zero_add, List.getElem?_append_left hk, getElem?_wordBytes w hk]
      rfl
    | succ i =>
      have hge : (wordBytes w).length ≤ 8 * (i + 1) + k := by rw [length_wordBytes]; omega
      have hsub : 8 * (i + 1) + k - (wordBytes w).length = 8 * i + k := by rw [length_wordBytes]; omega
      rw [List.getElem?_append_right hge, hsub, ih, List.getElem?_cons_succ]

/-- R9: byte m of an array's encoding is byte m mod 8 of word m / 8. -/
theorem getElem?_le64Encode_toList {n : Nat} (v : Vector Word n) {m : Nat} (hm : m / 8 < n) :
    (le64Encode v.toList)[m]? = some (wordByte v[m / 8] (m % 8)) := by
  have hbyte := getElem?_le64Encode v.toList (m / 8) (Nat.mod_lt m (by decide : 0 < 8))
  rw [Nat.div_add_mod] at hbyte
  simpa [hm] using hbyte

/-! ### The register window (R60, R61, R73) -/

/-- R60: an address leads to an offset exactly when it is that offset's host address. -/
theorem windowOffset_eq_some_iff {addr : Nat} {off : Offset} : windowOffset addr = some off ↔ addr = hostAddress off := by
  have hoff : off.toNat < 0x400 := off.isLt
  unfold windowOffset hostAddress
  split
  · next hin =>
    rw [Option.some.injEq, ← BitVec.toNat_inj, BitVec.toNat_ofNat]
    omega
  · next hout =>
    simp only [reduceCtorEq, false_iff]
    omega

/-- R61: a register's offset divided by 8; the reserved offsets have no single one. -/
def regIndex : Reg → Option Nat
  | .id => some 0
  | .cap => some 1
  | .ctrl => some 2
  | .cmd => some 3
  | .status => some 4
  | .keyLen => some 5
  | .nonceLen => some 6
  | .seekPos => some 7
  | .ctr => some 8
  | .key i => some (16 + i)
  | .nonce j => some (32 + j)
  | .dataIn j => some (40 + j)
  | .ksOut j => some (48 + j)
  | .test i => some (64 + i)
  | .reserved => none

/-- R61: the register at an offset is the one whose index is off / 8. -/
theorem regAt_of_regIndex {off : Offset} {r : Reg} (h : regIndex r = some (off.toNat / 8)) : regAt off = r := by
  cases r
  case reserved => cases h
  all_goals
    rw [regIndex, Option.some.injEq] at h
    simp (disch := omega) [regAt, ← h, if_neg, dif_pos, dif_neg]

section ByteOffset

variable {base m : Nat} {r : Reg} (hbase : base % 8 = 0) (hlt : base + m < 0x400) (hr : regIndex r = some (base / 8 + m / 8))

include hbase hlt hr

/-- R73: byte m of an array at an aligned offset belongs to the register m / 8 places further on. -/
theorem regAt_base_add : regAt (BitVec.ofNat 10 (base + m)) = r := by
  refine regAt_of_regIndex ?_
  rw [hr, BitVec.toNat_ofNat, Option.some.injEq]
  omega

/-- R73: the byte shown there is byte m mod 8 of what the host reads from that register. -/
theorem windowByte_base_add (s : State) : windowByte (BitVec.ofNat 10 (base + m)) s = wordByte (hostView r s) (m % 8) := by
  have hmod : (BitVec.ofNat 10 (base + m)).toNat % 8 = m % 8 := by rw [BitVec.toNat_ofNat]; omega
  rw [windowByte, regAt_base_add hbase hlt hr, hmod]

end ByteOffset

/-! ### STATUS as the host reads it (R30) -/

section StatusWord

variable (busy : Bool) (st : Status)

theorem statusWord_bit_busy : (statusWord busy st).getLsbD 0 = busy := by
  simp only [statusWord, BitVec.getLsbD_append]; simp

theorem statusWord_bit_ready : (statusWord busy st).getLsbD 1 = st.ready := by
  simp only [statusWord, BitVec.getLsbD_append]; simp

theorem statusWord_bit_done : (statusWord busy st).getLsbD 2 = st.done := by
  simp only [statusWord, BitVec.getLsbD_append]; simp

theorem statusWord_bit_err : (statusWord busy st).getLsbD 3 = st.err := by
  simp only [statusWord, BitVec.getLsbD_append]; simp

theorem statusWord_bit_fatal : (statusWord busy st).getLsbD 4 = st.fatal := by
  simp only [statusWord, BitVec.getLsbD_append]; simp

theorem statusWord_bit_token : (statusWord busy st).getLsbD 5 = st.token := by
  simp only [statusWord, BitVec.getLsbD_append]; simp

@[simp] theorem statusWord_field_variant : (statusWord busy st).extractLsb' 6 2 = st.variant.code := by
  unfold statusWord
  iterate 6 rw [BitVec.extractLsb'_append_eq_of_le (by decide)]
  exact BitVec.extractLsb'_append_eq_right

@[simp] theorem statusWord_field_errCode : (statusWord busy st).extractLsb' 8 8 = st.errCode.code := by
  unfold statusWord
  iterate 7 rw [BitVec.extractLsb'_append_eq_of_le (by decide)]
  exact BitVec.extractLsb'_append_eq_right

@[simp] theorem statusWord_field_reserved : (statusWord busy st).extractLsb' 16 48 = 0#48 := by
  unfold statusWord
  iterate 8 rw [BitVec.extractLsb'_append_eq_of_le (by decide)]
  exact BitVec.extractLsb'_eq_self

end StatusWord

theorem memRead_status (s : State) : memRead 0x020#10 8 s = statusWord s.busy s.status := rfl

/-! ### The datapaths compute the functions of 40_permutation.md (R200) -/

/-- R8: the spec's left rotation is Lean's. -/
theorem rotl_eq_rotateLeft (x : Word) {r : Nat} (hr : r < 64) : rotl x r = x.rotateLeft r := by
  rw [rotl, BitVec.rotateLeft_def, Nat.mod_eq_of_lt hr]

/-- R110: the round primitive in Lean's own rotations. -/
theorem roundF_eq_arx (x : Word) : roundF x = arx x := by
  simp [roundF, arx, rotl_eq_rotateLeft, rotation1, rotation2, rotation3]

/-- R115, R199: a map that carries one round to another carries their repetitions to each other. -/
theorem map_repeatRound {α β : Type} {φ : α → β} {f : α → α} {g : β → β} (h : ∀ a, φ (f a) = g (φ a)) (n : Nat) (a : α) :
    φ (repeatRound f n a) = repeatRound g n (φ a) := by
  induction n with
  | zero => rfl
  | succ n ih => rw [repeatRound, h, ih, repeatRound]

theorem getElem_diagPerm (s : Block) {i : Nat} (hi : i < 16) : (diagPerm s)[i] = s[diagTable[i]] := Vector.getElem_ofFn hi

theorem getElem_mapF (s : Block) {i : Nat} (hi : i < 16) : (mapF s)[i] = roundF s[i] := Vector.getElem_ofFn hi

/-! R195 to R197: the four-lane datapath. -/

@[simp] theorem unpack_pack (s : Block) : unpack (pack s) = s := by
  ext i hi
  interval_cases i <;> rfl

theorem pack_quadMixAll (s : Block) : pack (quadMixAll s) = (pack s).mix := rfl

theorem pack_diagPerm (s : Block) : pack (diagPerm s) = (pack s).diag := by
  simp only [pack, getElem_diagPerm]
  rfl

theorem pack_mapF (s : Block) : pack (mapF s) = (pack s).mapF := by
  simp only [pack, getElem_mapF]
  rfl

theorem pack_permRound (s : Block) : pack (permRound s) = (pack s).round := by
  rw [permRound, pack_diagPerm, pack_quadMixAll, Cols.round]

/-! R198: the two-lane datapath, whose registers are the halves of the four-lane one's. -/

@[simp] theorem unpackSplit_packSplit (s : Block) : unpackSplit (packSplit s) = s := unpack_pack s

theorem packSplit_quadMixAll (s : Block) : packSplit (quadMixAll s) = (packSplit s).mix := rfl

theorem packSplit_diagPerm (s : Block) : packSplit (diagPerm s) = (packSplit s).diag := by
  simp only [packSplit, pack_diagPerm]
  rfl

theorem packSplit_mapF (s : Block) : packSplit (mapF s) = (packSplit s).mapF := by
  simp only [packSplit, pack_mapF]
  rfl

theorem packSplit_permRound (s : Block) : packSplit (permRound s) = (packSplit s).round := by
  rw [permRound, packSplit_diagPerm, packSplit_quadMixAll, SplitCols.round]

/-! R200: every datapath gives the scalar result. -/

section Engine

variable (e : Engine) (s : Block)

@[simp] theorem engine_rounds (n : Nat) : e.rounds n s = permRounds n s := by
  cases e with
  | scalar => rfl
  | vector2 => rw [Engine.rounds, ← map_repeatRound packSplit_permRound, unpackSplit_packSplit, permRounds]
  | vector4 => rw [Engine.rounds, ← map_repeatRound pack_permRound, unpack_pack, permRounds]

@[simp] theorem engine_quadMixAll : e.quadMixAll s = quadMixAll s := by
  cases e with
  | scalar => rfl
  | vector2 => rw [Engine.quadMixAll, ← packSplit_quadMixAll, unpackSplit_packSplit]
  | vector4 => rw [Engine.quadMixAll, ← pack_quadMixAll, unpack_pack]

@[simp] theorem engine_diagPerm : e.diagPerm s = diagPerm s := by
  cases e with
  | scalar => rfl
  | vector2 => rw [Engine.diagPerm, ← packSplit_diagPerm, unpackSplit_packSplit]
  | vector4 => rw [Engine.diagPerm, ← pack_diagPerm, unpack_pack]

@[simp] theorem engine_mapF : e.mapF s = mapF s := by
  cases e with
  | scalar => rfl
  | vector2 => rw [Engine.mapF, ← packSplit_mapF, unpackSplit_packSplit]
  | vector4 => rw [Engine.mapF, ← pack_mapF, unpack_pack]

end Engine

/-- R270: the model's end of a command is the record the statements write out. -/
theorem finish_eq_completed (s : State) : finish s = completed s := rfl

/-! ### The statements -/

/-- Settles O16: a command in flight completes with its effect, and every datapath's effect on TEST is the scalar one. -/
theorem testCommandsRun : Obligations.TestCommandsRun := by
  intro p s hp
  refine ⟨fun n => ?_, ?_, ?_, ?_⟩ <;> rw [exec_inFlight _ hp, finish_eq_completed]
  · simp only [effectOf, engine_rounds]
  · simp only [effectOf, engine_quadMixAll]
  · simp only [effectOf, engine_diagPerm, diagPerm]
  · simp only [effectOf, engine_mapF, mapF, roundF_eq_arx]

/-- Settles O43: the two inverses, and the place of a byte, each by induction on the string. -/
theorem littleEndianBytes : Obligations.LittleEndianBytes := by
  refine ⟨le64Decode_le64Encode, fun _ => le64Encode_le64Decode, fun ws i k w hw hk => ?_⟩
  rw [getElem?_le64Encode ws i hk, hw]
  rfl

/-- Settles O44: byte m of an array and byte m of its window are both byte m mod 8 of word m / 8. -/
theorem windowShowsByteStrings : Obligations.WindowShowsByteStrings := by
  refine ⟨fun m s => ?_, fun m => regAt_base_add rfl (by omega) rfl⟩
  have hm : m.val / 8 < 8 := by omega
  refine ⟨?_, ?_, regAt_base_add rfl (by omega) rfl⟩
  · rw [windowByte_base_add (r := .dataIn ⟨m / 8, hm⟩) rfl (by omega) rfl, getElem?_le64Encode_toList _ hm]
    rfl
  · rw [windowByte_base_add (r := .ksOut ⟨m / 8, hm⟩) rfl (by omega) rfl, getElem?_le64Encode_toList _ hm]
    rfl

/-- Settles O40, field by field of the STATUS word. -/
theorem statusReadsItsFields : Obligations.StatusReadsItsFields := by
  intro s
  rw [memRead_status]
  refine ⟨statusWord_bit_busy _ _, statusWord_bit_ready _ _, statusWord_bit_done _ _, statusWord_bit_err _ _, statusWord_bit_fatal _ _,
    statusWord_bit_token _ _, ?_, ?_, statusWord_field_reserved _ _⟩
  · rw [statusWord_field_variant]
    cases s.status.variant <;> rfl
  · rw [statusWord_field_errCode]
    cases s.status.errCode <;> rfl

/-- Settles O42: both directions of the address map are one equivalence. -/
theorem windowAddresses : Obligations.WindowAddresses :=
  ⟨Nat.mul_mod_right 0x400 Config.baseBlock, fun _ => windowOffset_eq_some_iff.mpr rfl, fun _ _ => windowOffset_eq_some_iff.mp⟩

end Sys2Proof.Proofs

/-! PROOFS. The family 10_state.md. First the layer its statements share: what a host write leaves in a register, what the completion of a
command and a host write can change, and every step sorted by that. Then the invariant, operation by operation. Then the statements. -/

namespace Sys2Proof.Proofs

open Sys2Proof.Machine Sys2Proof.Laws Sys2Proof.Claims

/-! ### Host writes to a register, whole and by halves (R67, R68) -/

section RegisterWrite

variable {off : Offset} {r : Reg} {s : State}

/-- R67: with nothing in flight a write to any register but CMD, STATUS and CTRL is `writeOperand`. -/
theorem memWrite_idle (hr : regAt off = r) (hne : r ∉ [Reg.cmd, .status, .ctrl]) (hp : s.pending = none) (size : Nat) (v : Word) :
    memWrite off size v s = .next (writeOperand r (writeValue off size v (current r s)) s) := by
  subst hr
  simp only [List.mem_cons, List.not_mem_nil, or_false, not_or] at hne
  obtain ⟨hcmd, hstatus, hctrl⟩ := hne
  unfold memWrite
  split
  · contradiction
  · contradiction
  · contradiction
  · simp [hp]

theorem memWrite_whole (hr : regAt off = r) (hne : r ∉ [Reg.cmd, .status, .ctrl]) (hp : s.pending = none) (v : Word) :
    memWrite off 8 v s = .next (writeOperand r v s) :=
  memWrite_idle hr hne hp 8 v

/-- R68: the value a 4-byte write to the low half leaves. -/
theorem writeValue_low (hh : highHalf off = false) (lo : BitVec 32) (old : Word) :
    writeValue off 4 (lo.setWidth 64) old = old.extractLsb' 32 32 ++ lo := by
  simp [writeValue, merge, hh]

/-- R68: the value a 4-byte write to the high half leaves. -/
theorem writeValue_high (hh : highHalf off = true) (hi : BitVec 32) (old : Word) :
    writeValue off 4 (hi.setWidth 64) old = hi ++ old.extractLsb' 0 32 := by
  simp [writeValue, merge, hh]

theorem memWrite_low (hr : regAt off = r) (hne : r ∉ [Reg.cmd, .status, .ctrl]) (hh : highHalf off = false) (hp : s.pending = none)
    (lo : BitVec 32) :
    memWrite off 4 (lo.setWidth 64) s = .next (writeOperand r ((current r s).extractLsb' 32 32 ++ lo) s) := by
  rw [memWrite_idle hr hne hp, writeValue_low hh]

theorem memWrite_high (hr : regAt off = r) (hne : r ∉ [Reg.cmd, .status, .ctrl]) (hh : highHalf off = true) (hp : s.pending = none)
    (hi : BitVec 32) :
    memWrite off 4 (hi.setWidth 64) s = .next (writeOperand r (hi ++ (current r s).extractLsb' 0 32) s) := by
  rw [memWrite_idle hr hne hp, writeValue_high hh]

end RegisterWrite

section ArrayOffset

variable {base : Nat} {i : Nat}

/-- R61: word i of a register array, at the low half (base % 8 = 0) or the high half (base % 8 = 4). -/
theorem regAt_word {r : Reg} (hlt : base + 8 * i < 0x400) (hr : regIndex r = some (base / 8 + i)) :
    regAt (BitVec.ofNat 10 (base + 8 * i)) = r := by
  refine regAt_of_regIndex ?_
  rw [hr, BitVec.toNat_ofNat, Option.some.injEq]
  omega

/-- R66, R68: bit 2 of the array's base says which half of every word is addressed. -/
theorem highHalf_word : highHalf (BitVec.ofNat 10 (base + 8 * i)) = decide (base / 4 % 2 = 1) := by
  rw [highHalf, BitVec.getLsbD_ofNat, decide_eq_true (by decide), Bool.true_and, Nat.testBit_eq_decide_div_mod_eq, decide_eq_decide]
  omega

end ArrayOffset

/-! Registers narrower than a word: the reserved bits (R29, R31). -/

/-- R67: a value stored in k bits and read back is the value with its upper bits 0. -/
theorem setWidth_setWidth_eq_and (v : Word) {k : Nat} (hk : k ≤ 64) : (v.setWidth k).setWidth 64 = v &&& BitVec.ofNat 64 (2 ^ k - 1) := by
  have hpow : 2 ^ k ≤ 2 ^ 64 := Nat.pow_le_pow_right (by decide) hk
  have hpos : 0 < 2 ^ k := Nat.two_pow_pos k
  apply BitVec.eq_of_toNat_eq
  rw [BitVec.toNat_and, BitVec.toNat_ofNat, Nat.mod_eq_of_lt (by omega), Nat.and_two_pow_sub_one_eq_mod, BitVec.toNat_setWidth,
    BitVec.toNat_setWidth, Nat.mod_eq_of_lt ((Nat.mod_lt _ hpos).trans_le hpow)]

/-- R68: a register of at most 32 bits takes its value from the low half. -/
theorem setWidth_append_low (x lo : BitVec 32) {k : Nat} (hk : k ≤ 32) : (x ++ lo).setWidth k = lo.extractLsb' 0 k := by
  rw [BitVec.setWidth_append, dif_pos hk, BitVec.setWidth_eq_extractLsb' hk]

/-- R68: and keeps its value when the high half is written. -/
theorem setWidth_append_kept {k : Nat} (hi : BitVec 32) (x : BitVec k) (hk : k ≤ 32) :
    (hi ++ (x.setWidth 64).extractLsb' 0 32).setWidth k = x := by
  rw [setWidth_append_low _ _ hk, ← BitVec.setWidth_eq_extractLsb' hk, BitVec.setWidth_extractLsb'_of_le hk,
    ← BitVec.setWidth_eq_extractLsb' (by omega), BitVec.setWidth_setWidth_of_le _ (by omega), BitVec.setWidth_eq]

theorem memWrite_ctrl_low (lo : BitVec 32) (s : State) :
    memWrite 0x010#10 4 (lo.setWidth 64) s = .next { s with ctrl := lo.extractLsb' 0 3 } := by
  have hwrite : memWrite 0x010#10 4 (lo.setWidth 64) s =
      .next { s with ctrl := (writeValue 0x010#10 4 (lo.setWidth 64) (current .ctrl s)).setWidth 3 } := rfl
  rw [hwrite, writeValue_low rfl, setWidth_append_low _ _ (by decide)]

theorem memWrite_ctrl_high (hi : BitVec 32) (s : State) : memWrite 0x014#10 4 (hi.setWidth 64) s = .next s := by
  have hwrite : memWrite 0x014#10 4 (hi.setWidth 64) s =
      .next { s with ctrl := (writeValue 0x014#10 4 (hi.setWidth 64) (current .ctrl s)).setWidth 3 } := rfl
  rw [hwrite, writeValue_high rfl, current, setWidth_append_kept _ _ (by decide)]

/-! ### What a write to an operand register changes (R67) -/

/-- A word that setting word k changes is word k. -/
theorem eq_of_getElem_set_ne {n : Nat} {v : Vector Word n} {k i : Fin n} {w : Word} (h : (v.set k w)[i] ≠ v[i]) : k = i := by
  by_contra hne
  exact h (Vector.getElem_set_ne k.isLt i.isLt fun heq => hne (Fin.ext heq))

section WriteOperand

variable (r : Reg) (w : Word) (s : State)

@[simp] theorem writeOperand_state : (writeOperand r w s).state = s.state := by cases r <;> rfl
@[simp] theorem writeOperand_ctr : (writeOperand r w s).ctr = s.ctr := by cases r <;> rfl
@[simp] theorem writeOperand_ksOut : (writeOperand r w s).ksOut = s.ksOut := by cases r <;> rfl
@[simp] theorem writeOperand_id : (writeOperand r w s).id = s.id := by cases r <;> rfl
@[simp] theorem writeOperand_cap : (writeOperand r w s).cap = s.cap := by cases r <;> rfl
@[simp] theorem writeOperand_status : (writeOperand r w s).status = s.status := by cases r <;> rfl
@[simp] theorem writeOperand_pending : (writeOperand r w s).pending = s.pending := by cases r <;> rfl

variable {r w s}

theorem eq_key_of_writeOperand {i : Fin 16} (h : (writeOperand r w s).key[i] ≠ s.key[i]) : r = .key i := by
  cases r with
  | key k => rw [eq_of_getElem_set_ne h]
  | _ => exact absurd rfl h

theorem eq_nonce_of_writeOperand {j : Fin 8} (h : (writeOperand r w s).nonce[j] ≠ s.nonce[j]) : r = .nonce j := by
  cases r with
  | nonce k => rw [eq_of_getElem_set_ne h]
  | _ => exact absurd rfl h

theorem eq_dataIn_of_writeOperand {j : Fin 8} (h : (writeOperand r w s).dataIn[j] ≠ s.dataIn[j]) : r = .dataIn j := by
  cases r with
  | dataIn k => rw [eq_of_getElem_set_ne h]
  | _ => exact absurd rfl h

theorem eq_keyLen_of_writeOperand (h : (writeOperand r w s).keyLen ≠ s.keyLen) : r = .keyLen := by
  cases r with
  | keyLen => rfl
  | _ => exact absurd rfl h

theorem eq_nonceLen_of_writeOperand (h : (writeOperand r w s).nonceLen ≠ s.nonceLen) : r = .nonceLen := by
  cases r with
  | nonceLen => rfl
  | _ => exact absurd rfl h

theorem eq_seekPos_of_writeOperand (h : (writeOperand r w s).seekPos ≠ s.seekPos) : r = .seekPos := by
  cases r with
  | seekPos => rfl
  | _ => exact absurd rfl h

theorem eq_test_of_writeOperand (h : (writeOperand r w s).test ≠ s.test) : ∃ i, r = .test i := by
  cases r with
  | test i => exact ⟨i, rfl⟩
  | _ => exact absurd rfl h

end WriteOperand

/-! ### What the completion of a command changes (R270) -/

section Effect

variable {i : Instr} {b : Bool} {s : State}

theorem initEffect_of_variant {var : BitVec 2} {v : Variant} (h : variantOfCode var = some v) (b : Bool) (s : State) :
    initEffect var b s = construct v b s := by
  simp only [initEffect, h]

/-- A reserved VAR builds nothing. -/
theorem initEffect_cases (var : BitVec 2) (b : Bool) (s : State) : initEffect var b s = s ∨ ∃ v, initEffect var b s = construct v b s := by
  cases hv : variantOfCode var with
  | none => exact .inl (by simp only [initEffect, hv])
  | some v => exact .inr ⟨v, initEffect_of_variant hv b s⟩

/-- No completion writes ID, CAP or an error's report. -/
theorem effectOf_constants (i : Instr) (b : Bool) (s : State) :
    (effectOf i b s).id = s.id ∧ (effectOf i b s).cap = s.cap ∧ (effectOf i b s).status.err = s.status.err ∧
      (effectOf i b s).status.errCode = s.status.errCode ∧ (effectOf i b s).status.fatal = s.status.fatal := by
  cases i with
  | init var =>
    obtain h | ⟨v, h⟩ := initEffect_cases var b s
    all_goals simp [effectOf, h]
  | _ => exact ⟨rfl, rfl, rfl, rfl, rfl⟩

/-- R211: only ZEROIZE writes an operand register. -/
theorem effectOf_operands (h : i ≠ .zeroize) (b : Bool) (s : State) :
    (effectOf i b s).key = s.key ∧ (effectOf i b s).nonce = s.nonce ∧ (effectOf i b s).dataIn = s.dataIn ∧
      (effectOf i b s).keyLen = s.keyLen ∧ (effectOf i b s).nonceLen = s.nonceLen ∧ (effectOf i b s).seekPos = s.seekPos := by
  cases i with
  | zeroize => contradiction
  | init var =>
    obtain h | ⟨v, h⟩ := initEffect_cases var b s
    all_goals simp [effectOf, h]
  | _ => exact ⟨rfl, rfl, rfl, rfl, rfl, rfl⟩

theorem writer_of_effectOf_state (h : (effectOf i b s).state ≠ s.state) : (∃ v, i = .init v) ∨ i = .zeroize := by
  cases i with
  | init var => exact .inl ⟨var, rfl⟩
  | zeroize => exact .inr rfl
  | _ => exact absurd rfl h

theorem writer_of_effectOf_status (h : (effectOf i b s).status ≠ s.status) : (∃ v, i = .init v) ∨ i = .zeroize := by
  cases i with
  | init var => exact .inl ⟨var, rfl⟩
  | zeroize => exact .inr rfl
  | _ => exact absurd rfl h

theorem writer_of_effectOf_ctr (h : (effectOf i b s).ctr ≠ s.ctr) :
    (∃ v, i = .init v) ∨ (∃ x, i = .gen x) ∨ i = .seek ∨ i = .zeroize := by
  cases i with
  | init var => exact .inl ⟨var, rfl⟩
  | gen x => exact .inr (.inl ⟨x, rfl⟩)
  | seek => exact .inr (.inr (.inl rfl))
  | zeroize => exact .inr (.inr (.inr rfl))
  | _ => exact absurd rfl h

theorem writer_of_effectOf_ksOut (h : (effectOf i b s).ksOut ≠ s.ksOut) : (∃ x, i = .gen x) ∨ i = .zeroize := by
  cases i with
  | gen x => exact .inl ⟨x, rfl⟩
  | zeroize => exact .inr rfl
  | init var =>
    obtain heq | ⟨v, heq⟩ := initEffect_cases var b s
    all_goals simp [effectOf, heq] at h
  | _ => exact absurd rfl h

theorem writer_of_effectOf_test (h : (effectOf i b s).test ≠ s.test) :
    (∃ n, i = .tperm n) ∨ i = .tqmix ∨ i = .tdperm ∨ i = .tf ∨ i = .zeroize := by
  cases i with
  | tperm n => exact .inl ⟨n, rfl⟩
  | tqmix | tdperm | tf | zeroize => simp
  | init var =>
    obtain heq | ⟨v, heq⟩ := initEffect_cases var b s
    all_goals simp [effectOf, heq] at h
  | _ => exact absurd rfl h

end Effect

/-! ### What a host write changes -/

/-- What no host write takes away: READY, TOKEN and VARIANT, which INIT latched (R40), and FATAL (R263). -/
def KeepsInstance (st st' : Status) : Prop :=
  st'.ready = st.ready ∧ st'.token = st.token ∧ st'.variant = st.variant ∧ (st.fatal = true → st'.fatal = true)

theorem keepsInstance_refl (st : Status) : KeepsInstance st st := ⟨rfl, rfl, rfl, id⟩

theorem keepsInstance_issued (st : Status) : KeepsInstance st st.issued := ⟨rfl, rfl, rfl, id⟩

theorem keepsInstance_raised (code : ErrCode) (st : Status) : KeepsInstance st (st.raised code) :=
  ⟨rfl, rfl, rfl, fun h => by simp [h]⟩

theorem keepsInstance_written (v : Word) (st : Status) : KeepsInstance st (st.written v) := ⟨rfl, rfl, rfl, id⟩

section HostWrite

variable {s t : State}

/-- R270: the issue of a command writes PENDING and STATUS alone. -/
theorem exec_idle_frame {i : Instr} (hp : s.pending = none) (h : exec i s = .next t) :
    ∃ pending status, t = { s with pending := pending, status := status } ∧ KeepsInstance s.status status := by
  obtain ⟨p, hsome, -⟩ | ⟨-, -, -, rfl⟩ | ⟨-, -, code, -, rfl⟩ | ⟨-, -, -, rfl⟩ := exec_cases h
  · rw [hp] at hsome; cases hsome
  · exact ⟨_, _, rfl, keepsInstance_refl _⟩
  · exact ⟨_, _, rfl, keepsInstance_raised _ _⟩
  · exact ⟨_, _, rfl, keepsInstance_issued _⟩

/-- R232: and so does a word written to CMD, whatever becomes of it. -/
theorem issue_frame {c : CmdWord} (h : issue c s = .next t) :
    ∃ pending status, t = { s with pending := pending, status := status } ∧ KeepsInstance s.status status := by
  obtain ⟨-, rfl⟩ | ⟨-, -, rfl⟩ | ⟨-, -, -, rfl⟩ | ⟨hp, -, i, -, hexec⟩ := issue_cases h
  · exact ⟨_, _, rfl, keepsInstance_refl _⟩
  · exact ⟨_, _, rfl, keepsInstance_raised _ _⟩
  · exact ⟨_, _, rfl, keepsInstance_raised _ _⟩
  · exact exec_idle_frame hp hexec

/-- R67: a legal host write changes an operand register with nothing in flight, or at most CTRL, PENDING and STATUS. -/
theorem memWrite_frame {off : Offset} {size : Nat} {v : Word} (h : memWrite off size v s = .next t) :
    (s.pending = none ∧ ∃ w, t = writeOperand (regAt off) w s) ∨
      ∃ ctrl pending status, t = { s with ctrl := ctrl, pending := pending, status := status } ∧ KeepsInstance s.status status := by
  obtain rfl | ⟨-, hissue⟩ | ⟨-, rfl⟩ | ⟨-, rfl⟩ | ⟨hp, rfl⟩ := memWrite_cases h
  · exact .inr ⟨_, _, _, rfl, keepsInstance_refl _⟩
  · obtain ⟨pending, status, rfl, hkeep⟩ := issue_frame hissue
    exact .inr ⟨_, _, _, rfl, hkeep⟩
  · exact .inr ⟨_, _, _, rfl, keepsInstance_written _ _⟩
  · exact .inr ⟨_, _, _, rfl, keepsInstance_refl _⟩
  · exact .inl ⟨hp, _, rfl⟩

/-- Every step by what it changes: a completion, reset, a host write to an operand register, or nothing but CTRL, PENDING, STATUS and the
host's own fields. -/
theorem step_frame (hs : step s = .next t) :
    (∃ i b, completes s = some i ∧ t = { finish (effectOf i b s) with turns := s.turns.tail }) ∨
      (hostActs s = some .reset ∧ t = hardReset { s with host := s.host.tail, turns := s.turns.tail }) ∨
      (∃ off size v w, hostActs s = some (.write off size v) ∧ s.pending = none ∧
        t = writeOperand (regAt off) w { s with host := s.host.tail, turns := s.turns.tail }) ∨
      ∃ ctrl pending status host turns responses,
        t = { s with
          ctrl := ctrl, pending := pending, status := status, host := host, turns := turns, responses := responses } ∧
        KeepsInstance s.status status := by
  obtain ⟨p, i, -, -, -, hc, -, rfl⟩ | ⟨ha, -, rfl⟩ | ⟨off, size, v, -, -, ha, -, hw⟩ | ⟨-, -, host, responses, rfl, -⟩ := step_cases hs
  · exact .inl ⟨i, p.backend, hc, rfl⟩
  · exact .inr (.inl ⟨ha, rfl⟩)
  · obtain ⟨hp, w, rfl⟩ | ⟨ctrl, pending, status, rfl, hkeep⟩ := memWrite_frame hw
    · exact .inr (.inr (.inl ⟨off, size, v, w, ha, hp, rfl⟩))
    · exact .inr (.inr (.inr ⟨_, _, _, _, _, _, rfl, hkeep⟩))
  · exact .inr (.inr (.inr ⟨_, _, _, _, _, _, rfl, keepsInstance_refl _⟩))

end HostWrite

theorem hostActs_eq_some {s : State} {op : HostOp} (h : hostActs s = some op) : mover s = .host ∧ s.host = op :: s.host.tail := by
  unfold hostActs at h
  split at h
  · next hm =>
    obtain ⟨rest, hrest⟩ := List.head?_eq_some_iff.mp h
    exact ⟨hm, by rw [hrest]; rfl⟩
  · cases h

/-! ### The word of a command in flight decodes to it (R91, R98) -/

theorem encode_tperm (n : BitVec 16) : encode (.tperm n) = n ++ 0x0010#16 := by
  rw [BitVec.append_def, BitVec.shiftLeftZeroExtend_eq]
  simp [encode, Instr.operandBits, Instr.opc]

theorem decode_append_tperm (n : BitVec 16) : decode (n ++ 0x0010#16) = .ok (.tperm n) := by
  have hopc : opcField (n ++ 0x0010#16) = 0x10#8 := BitVec.extractLsb'_append_eq_of_add_le (by decide)
  have harg : argField (n ++ 0x0010#16) = 0#8 := BitVec.extractLsb'_append_eq_of_add_le (by decide)
  have hcnt : cntField (n ++ 0x0010#16) = n := BitVec.extractLsb'_append_eq_left
  simp [decode, decodeC, hopc, harg, hcnt]

/-- R98: the word of a well-formed command decodes to it. -/
theorem decode_encode {i : Instr} (hi : i.wellFormed = true) : decode (encode i) = .ok i := by
  cases i with
  | tperm n => rw [encode_tperm, decode_append_tperm]
  | init var =>
    obtain rfl | rfl : var = 0b00#2 ∨ var = 0b01#2 := by simpa [Instr.wellFormed] using hi
    · rfl
    · rfl
  | gen x => cases x <;> rfl
  | _ => rfl

/-! ### The invariant, operation by operation -/

section Invariant

variable {s t : State} {i : Instr} {p : Pending}

/-- R233: a report keeps the invariant where FATAL is 0: BUSY is the one code with a command in flight (R238), and 0x05 comes at the last
counter (R236). -/
theorem inv_takeError {code : ErrCode} (h : Inv s) (hfatal : s.status.fatal = false) (hcode : code ≠ .none)
    (hflight : s.pending = none ∨ code = .busy) (hlast : code = .ctrExhausted → s.ctr = lastCounter) : Inv (takeError code s) := by
  obtain ⟨hpend, -, hscrub, -, hbuild⟩ := h
  refine ⟨fun p hp => ?_, ?_, hscrub, fun hf _ => ?_, hbuild⟩
  · obtain hnone | rfl := hflight
    · simp [hnone] at hp
    · exact hpend p hp
  · exact ⟨by simp [hcode], by simp [hfatal]⟩
  · exact hlast (by simpa [hfatal] using hf)

/-- R244: a STATUS write clears ERR and ERRCODE together, and neither under FATAL. -/
theorem inv_statusWrite (h : Inv s) (v : Word) : Inv (statusWrite v s) := by
  obtain ⟨hpend, ⟨herr, hfatal⟩, hscrub, hlast, hbuild⟩ := h
  refine ⟨fun p hp => ?_, ?_, hscrub, hlast, hbuild⟩
  · obtain ⟨hdone, hrest⟩ := hpend p hp
    exact ⟨by simp [hdone], hrest⟩
  · simp only [ErrorOk, statusWrite_status, Status.written_err, Status.written_errCode, Status.written_fatal]
    by_cases hclear : (v.getLsbD 3 && !s.status.fatal) = true
    · obtain ⟨-, hf⟩ : v.getLsbD 3 = true ∧ s.status.fatal = false := by rwa [Bool.and_eq_true, Bool.not_eq_true'] at hclear
      rw [if_pos hclear, if_pos hclear, hf]
      simp
    · simp only [if_neg hclear]
      exact ⟨herr, hfatal⟩

/-- R67, R72: an operand register is written with nothing in flight, so no check of an issue depends on it any more. -/
theorem inv_writeOperand (h : Inv s) (hp : s.pending = none) (r : Reg) (w : Word) : Inv (writeOperand r w s) := by
  obtain ⟨-, herror, hscrub, hlast, hbuild⟩ := h
  refine ⟨fun p hsome => ?_, ?_, ?_, ?_, ?_⟩
  · simp [hp] at hsome
  · simpa [ErrorOk] using herror
  · simpa [ScrubbedOk] using hscrub
  · simpa [FatalOk] using hlast
  · simpa [BuildOk] using hbuild

/-- R232: a command whose own check rejects it does not run under FATAL; the code is not 0, and is 0x05 only at the last counter. -/
theorem code_of_checkOf {code : ErrCode} (h : checkOf i s = some code) :
    underFatal i = false ∧ code ≠ .none ∧ (code = .ctrExhausted → s.ctr = lastCounter) := by
  cases i with
  | init var =>
    simp only [checkOf, initCheck] at h
    split at h
    · cases h; exact ⟨rfl, nofun, nofun⟩
    · split at h <;> cases h
      exact ⟨rfl, nofun, nofun⟩
  | gen x =>
    simp only [checkOf, genCheck] at h
    split at h
    · split at h
      · next hlast => cases h; exact ⟨rfl, nofun, fun _ => hlast⟩
      · cases h
    · cases h; exact ⟨rfl, nofun, nofun⟩
  | seek =>
    simp only [checkOf, readyCheck] at h
    split at h <;> cases h
    exact ⟨rfl, nofun, nofun⟩
  | _ => cases h

theorem variant_of_initCheck {var : BitVec 2} (h : initCheck var s = none) :
    ∃ v, variantOfCode var = some v ∧ lengthsMatch v s = true := by
  unfold initCheck at h
  split at h
  · cases h
  · next v hv => exact ⟨v, hv, by simpa using h⟩

theorem canGenerate_of_genCheck (h : genCheck s = none) : CanGenerate s := by
  unfold genCheck at h
  split at h
  · next hready => exact ⟨hready, by simpa using h⟩
  · cases h

theorem ready_of_readyCheck (h : readyCheck s = none) : s.status.ready = true := by
  simpa [readyCheck] using h

/-- R232: what an accepted command's check has found, and the bit it takes (R190). -/
theorem inFlightOk_of_checkOf (hcheck : checkOf i s = none) (hfatal : s.status.fatal = true → underFatal i = true) (w : CmdWord) :
    inFlightOk i ⟨w, backendOf i s⟩ s := by
  have hzero : underFatal i = true → i = .zeroize := by cases i <;> simp [underFatal]
  refine ⟨fun hf => hzero (hfatal hf), ?_⟩
  cases i with
  | init var => exact variant_of_initCheck hcheck
  | gen x =>
    obtain ⟨hready, hctr⟩ := canGenerate_of_genCheck hcheck
    exact ⟨hready, rfl, hctr⟩
  | seek => exact ⟨ready_of_readyCheck hcheck, rfl⟩
  | _ => trivial

theorem wellFormed_of_checkOf (hcheck : checkOf i s = none) : i.wellFormed = true := by
  cases i with
  | init var =>
    obtain ⟨v, hv, -⟩ := variant_of_initCheck hcheck
    unfold variantOfCode at hv
    split at hv
    · next h => simp [Instr.wellFormed, h]
    · split at hv
      · next h => simp [Instr.wellFormed, h]
      · cases hv
  | _ => rfl

/-- R190, R191, R193: no command takes b = 1 on a core without a vector datapath. -/
theorem vecPresent_of_backendOf (h : BuildOk s) (hb : backendOf i s = true) : vecPresent s.cap = true := by
  obtain ⟨htoken, -⟩ := h
  have hprobe : probe s = true → vecPresent s.cap = true := fun h => by simp_all [probe]
  cases i with
  | gen x => exact htoken hb
  | seek => exact htoken hb
  | _ => exact hprobe hb

/-- R270: an accepted command is in flight with what its issue checked. -/
theorem inv_accept (h : Inv s) (hcheck : checkOf i s = none) (hfatal : s.status.fatal = true → underFatal i = true) :
    Inv (accept (encode i) (backendOf i s) s) := by
  obtain ⟨-, herror, hscrub, hlast, hbuild⟩ := h
  refine ⟨fun p hp => ?_, herror, hscrub, hlast, hbuild⟩
  cases hp
  exact ⟨rfl, vecPresent_of_backendOf hbuild, i, decode_encode (wellFormed_of_checkOf hcheck), inFlightOk_of_checkOf hcheck hfatal _⟩

theorem inv_exec_idle (h : Inv s) (hp : s.pending = none) (hexec : exec i s = .next t) : Inv t := by
  obtain ⟨p, hsome, -⟩ | ⟨-, -, -, rfl⟩ | ⟨-, hrun, code, hcheck, rfl⟩ | ⟨-, hrun, hcheck, rfl⟩ := exec_cases hexec
  · rw [hp] at hsome; cases hsome
  · exact h
  · obtain ⟨hunder, hcode, hctr⟩ := code_of_checkOf hcheck
    have hfatal : s.status.fatal = false := by simpa [hunder] using hrun
    exact inv_takeError h hfatal hcode (.inl hp) hctr
  · exact inv_accept h hcheck (by simpa using hrun)

theorem inv_issue {c : CmdWord} (h : Inv s) (hissue : issue c s = .next t) : Inv t := by
  obtain ⟨-, rfl⟩ | ⟨hf, -, rfl⟩ | ⟨hf, hp, -, rfl⟩ | ⟨hp, -, i, -, hexec⟩ := issue_cases hissue
  · exact h
  · exact inv_takeError h hf (by decide) (.inr rfl) (by simp)
  · exact inv_takeError h hf (by decide) (.inl hp) (by simp)
  · exact inv_exec_idle h hp hexec

theorem inv_memWrite {off : Offset} {size : Nat} {v : Word} (h : Inv s) (hw : memWrite off size v s = .next t) : Inv t := by
  obtain rfl | ⟨-, hissue⟩ | ⟨-, rfl⟩ | ⟨-, rfl⟩ | ⟨hp, rfl⟩ := memWrite_cases hw
  · exact h
  · exact inv_issue h hissue
  · exact inv_statusWrite h _
  · exact h
  · exact inv_writeOperand h hp _ _

/-- R39, R260: reset needs nothing of the invariant but the constant ID. -/
theorem inv_hardReset (hid : s.id = idWord) : Inv (hardReset s) :=
  ⟨nofun, ⟨by simp [Status.reset], by simp [Status.reset]⟩, fun _ => ⟨rfl, rfl, rfl, rfl, rfl⟩, nofun, nofun, hid⟩

/-- R211, R41: after a completion READY is 1 or what INIT and GEN have built is gone. -/
theorem scrubbedOk_effectOf (h : ScrubbedOk s) (hflight : inFlightOk i p s) (b : Bool) : ScrubbedOk (effectOf i b s) := by
  obtain ⟨-, hflight⟩ := hflight
  cases i with
  | init var =>
    obtain ⟨v, hv, -⟩ := hflight
    simp [ScrubbedOk, effectOf, initEffect_of_variant hv]
  | gen x =>
    obtain ⟨hready, -⟩ := hflight
    simp [ScrubbedOk, effectOf, hready]
  | seek =>
    obtain ⟨hready, -⟩ := hflight
    simp [ScrubbedOk, effectOf, hready]
  | zeroize => exact fun _ => ⟨rfl, rfl, rfl, rfl, rfl⟩
  | _ => exact h

/-- R193: a completion sets TOKEN to nothing but the bit b of the command. -/
theorem token_of_effectOf {b : Bool} (h : (effectOf i b s).status.token = true) : s.status.token = true ∨ b = true := by
  cases i with
  | init var =>
    obtain heq | ⟨v, heq⟩ := initEffect_cases var b s
    · exact .inl (by simpa [effectOf, heq] using h)
    · exact .inr (by simpa [effectOf, heq] using h)
  | zeroize => cases h
  | _ => exact .inl h

/-- R270: a completion keeps the invariant, for what the issue checked still holds. -/
theorem inv_finish_effectOf (h : Inv s) (hp : s.pending = some p) (hi : decode p.word = .ok i) : Inv (finish (effectOf i p.backend s)) := by
  obtain ⟨hpend, ⟨herr, hfatal⟩, hscrub, hlast, htoken, hid⟩ := h
  obtain ⟨-, hback, i', hi', hflight⟩ := hpend p hp
  obtain rfl : i' = i := by simpa [hi'] using hi
  obtain ⟨hideq, hcapeq, herreq, hcodeeq, hfataleq⟩ := effectOf_constants i' p.backend s
  refine ⟨nofun, ?_, scrubbedOk_effectOf hscrub hflight _, fun hf hready => ?_, fun ht => ?_, hideq.trans hid⟩
  · simpa [ErrorOk, herreq, hcodeeq, hfataleq] using ⟨herr, hfatal⟩
  · obtain ⟨hzero, -⟩ := hflight
    obtain rfl : i' = .zeroize := hzero (hfataleq.symm.trans hf)
    cases hready
  · rw [finish_cap, hcapeq]
    exact (token_of_effectOf ht).elim htoken hback

end Invariant

/-! ### The statements -/

/-- Settles O20: completion, reset, a host write and a step of the host's own fields each keep the invariant. -/
theorem stepKeepsInvariant : Obligations.StepKeepsInvariant := by
  intro s t hinv hs
  obtain ⟨p, i, -, hp, hi, -, -, rfl⟩ | ⟨-, -, rfl⟩ | ⟨off, size, v, -, -, -, -, hw⟩ | ⟨-, -, host, responses, rfl, -⟩ := step_cases hs
  · exact inv_finish_effectOf hinv hp hi
  · obtain ⟨-, -, -, -, -, hid⟩ := hinv
    exact inv_hardReset hid
  · exact inv_memWrite (s := { s with host := s.host.tail, turns := s.turns.tail }) hinv hw
  · exact hinv

/-- Settles O24: completions and host writes keep FATAL; and the host's reset is `hardReset`. -/
theorem onlyResetLeavesFatal : Obligations.OnlyResetLeavesFatal := by
  refine ⟨fun s t hs hset hclear => ?_, fun s ha => ?_⟩
  · obtain ⟨i, b, -, rfl⟩ | ⟨ha, -⟩ | ⟨off, size, v, w, -, -, rfl⟩ | ⟨_, _, status, _, _, _, rfl, -, -, -, hfatal⟩ := step_frame hs
    · obtain ⟨-, -, -, -, hkeep⟩ := effectOf_constants i b s
      simp [hkeep, hset] at hclear
    · exact ha
    · simp [hset] at hclear
    · simp [hfatal hset] at hclear
  · obtain ⟨hm, hhost⟩ := hostActs_eq_some ha
    rw [step_eq, hm]
    simp only [hostMove]
    rw [hhost]
    rfl

/-- Settles O28: no kind of step writes ID or CAP, and their reads are the constants. -/
theorem idAndCapAreConstant : Obligations.IdAndCapAreConstant := by
  refine ⟨fun s t hs => ?_, fun s hinv => ?_, fun s => ?_⟩
  · obtain ⟨i, b, -, rfl⟩ | ⟨-, rfl⟩ | ⟨off, size, v, w, -, -, rfl⟩ | ⟨_, _, _, _, _, _, rfl, -⟩ := step_frame hs
    · obtain ⟨hid, hcap, -⟩ := effectOf_constants i b s
      exact ⟨hid, hcap⟩
    · exact ⟨rfl, rfl⟩
    · exact ⟨writeOperand_id _ _ _, writeOperand_cap _ _ _⟩
    · exact ⟨rfl, rfl⟩
  · obtain ⟨-, -, -, -, -, hid⟩ := hinv
    exact hid
  · have hread : memRead 0x008#10 8 s = capWord s.cap := rfl
    rw [hread]
    cases s.cap <;> rfl

/-- Settles O22: only a completion, reset or a host write to TEST changes a result register, and each completion changes its own. -/
theorem resultRegistersHaveTheirWriters : Obligations.ResultRegistersHaveTheirWriters := by
  intro s t hs
  obtain ⟨i, b, hc, rfl⟩ | ⟨ha, -⟩ | ⟨off, size, v, w, ha, hp, rfl⟩ | ⟨_, _, status, _, _, _, rfl, hready, htoken, hvariant, -⟩ :=
    step_frame hs
  · simp only [hc, Option.some.injEq]
    refine ⟨fun h => .inr (writer_of_effectOf_state h), fun h => .inr (writer_of_effectOf_ctr h),
      fun h => .inr (writer_of_effectOf_ksOut h), fun h => .inr ?_, fun h => .inr (writer_of_effectOf_status (b := b) (s := s) fun heq => ?_)⟩
    · obtain ⟨n, rfl⟩ | rfl | rfl | rfl | rfl := writer_of_effectOf_test h <;> simp
    · simp [heq] at h
  · simp [ha]
  · refine ⟨?_, ?_, ?_, fun h => ?_, ?_⟩
    case refine_4 =>
      obtain ⟨j, hj⟩ := eq_test_of_writeOperand h
      exact .inr (.inr (.inr (.inr (.inr (.inr ⟨off, size, v, j, ha, hj, hp⟩)))))
    all_goals simp
  · simp [hready, htoken, hvariant]

/-- Settles O23: of the completions only ZEROIZE's, and of the host writes only one to that very register. -/
theorem operandRegistersHaveTheirWriters : Obligations.OperandRegistersHaveTheirWriters := by
  intro s t hs
  obtain ⟨i, b, hc, rfl⟩ | ⟨ha, -⟩ | ⟨off, size, v, w, ha, hp, rfl⟩ | ⟨_, _, status, _, _, _, rfl, -⟩ := step_frame hs
  · by_cases hz : i = .zeroize
    · simp [hc, hz]
    · obtain ⟨hkey, hnonce, hdata, hkeyLen, hnonceLen, hseek⟩ := effectOf_operands hz b s
      simp [hkey, hnonce, hdata, hkeyLen, hnonceLen, hseek]
  · simp [ha]
  · have hwrites : ∀ r, regAt off = r → HostWrites r s := fun r hr => ⟨off, size, v, ha, hr, hp⟩
    exact ⟨fun i h => .inr (.inr (hwrites _ (eq_key_of_writeOperand h))), fun j h => .inr (.inr (hwrites _ (eq_nonce_of_writeOperand h))),
      fun j h => .inr (.inr (hwrites _ (eq_dataIn_of_writeOperand h))), fun h => .inr (.inr (hwrites _ (eq_keyLen_of_writeOperand h))),
      fun h => .inr (.inr (hwrites _ (eq_nonceLen_of_writeOperand h))), fun h => .inr (.inr (hwrites _ (eq_seekPos_of_writeOperand h)))⟩
  · simp

/-- Settles O19: the reset state is what reset makes of itself. -/
theorem invariantAtReset : Obligations.InvariantAtReset := inv_hardReset (s := State.reset) rfl

/-- Settles O34: an 8-byte write is `writeOperand` of the value, at the offset of each register. -/
theorem registerWriteStores : Obligations.RegisterWriteStores := by
  refine ⟨fun v s => ⟨rfl, setWidth_setWidth_eq_and v (k := 3) (by decide)⟩, fun v s hp =>
    ⟨memWrite_whole (r := .keyLen) rfl (by decide) hp v, memWrite_whole (r := .nonceLen) rfl (by decide) hp v,
      memWrite_whole (r := .seekPos) rfl (by decide) hp v, fun i => ⟨?_, ?_, ?_⟩, fun j => ⟨?_, ?_, ?_⟩,
      setWidth_setWidth_eq_and v (k := 16) (by decide), setWidth_setWidth_eq_and v (k := 16) (by decide), rfl⟩⟩
  · exact memWrite_whole (r := .key i) (regAt_word (by omega) rfl) (by simp) hp v
  · exact memWrite_whole (r := .test i) (regAt_word (by omega) rfl) (by simp) hp v
  · rw [memRead, regAt_word (r := .test i) (by omega) rfl]
    exact Vector.getElem_set_self i.isLt
  · exact memWrite_whole (r := .nonce j) (regAt_word (by omega) rfl) (by simp) hp v
  · exact memWrite_whole (r := .dataIn j) (regAt_word (by omega) rfl) (by simp) hp v
  · rw [memRead, regAt_word (r := .dataIn j) (by omega) rfl]
    exact Vector.getElem_set_self j.isLt

/-- Settles O35: a 4-byte write is `writeOperand` of one new half and the stored other half, at the offset of each register. -/
theorem twoHalfWritesMakeAWord : Obligations.TwoHalfWritesMakeAWord := by
  refine ⟨fun i lo hi s hp => ⟨?_, ?_, ?_, ?_, ?_⟩, fun j lo hi s hp => ⟨?_, ?_, ?_, ?_⟩, fun lo hi s hp => ⟨?_, ?_, ?_, ?_, ?_, ?_⟩,
    fun lo hi s => ⟨memWrite_ctrl_low lo s, memWrite_ctrl_high hi s⟩⟩
  · exact memWrite_low (r := .key i) (regAt_word (by omega) rfl) (by simp) highHalf_word hp lo
  · exact memWrite_high (r := .key i) (regAt_word (by omega) rfl) (by simp) highHalf_word hp hi
  · refine (memWrite_high (r := .key i) (regAt_word (base := 0x084) (by omega) rfl) (by simp) highHalf_word ?_ hi).trans ?_
    · exact hp
    · simp only [current, writeOperand, Fin.getElem_fin, Vector.getElem_set_self, Vector.set_set, BitVec.extractLsb'_append_eq_right]
  · exact memWrite_low (r := .test i) (regAt_word (by omega) rfl) (by simp) highHalf_word hp lo
  · exact memWrite_high (r := .test i) (regAt_word (by omega) rfl) (by simp) highHalf_word hp hi
  · exact memWrite_low (r := .nonce j) (regAt_word (by omega) rfl) (by simp) highHalf_word hp lo
  · exact memWrite_high (r := .nonce j) (regAt_word (by omega) rfl) (by simp) highHalf_word hp hi
  · exact memWrite_low (r := .dataIn j) (regAt_word (by omega) rfl) (by simp) highHalf_word hp lo
  · exact memWrite_high (r := .dataIn j) (regAt_word (by omega) rfl) (by simp) highHalf_word hp hi
  · exact memWrite_low (r := .seekPos) rfl (by decide) rfl hp lo
  · exact memWrite_high (r := .seekPos) rfl (by decide) rfl hp hi
  · rw [memWrite_low (r := .keyLen) rfl (by decide) rfl hp, writeOperand, setWidth_append_low _ _ (by decide)]
  · rw [memWrite_high (r := .keyLen) rfl (by decide) rfl hp, writeOperand, current, setWidth_append_kept _ _ (by decide)]
  · rw [memWrite_low (r := .nonceLen) rfl (by decide) rfl hp, writeOperand, setWidth_append_low _ _ (by decide)]
  · rw [memWrite_high (r := .nonceLen) rfl (by decide) rfl hp, writeOperand, current, setWidth_append_kept _ _ (by decide)]

end Sys2Proof.Proofs

/-! PROOFS. The family 20_memory.md. First the layer its statements share: a step as the move of its agent, which accesses are legal, and a
legal write to a register that takes none. Then what a host move can change while a command is in flight. Then the statements. -/

namespace Sys2Proof.Proofs

open Sys2Proof.Machine Sys2Proof.Laws Sys2Proof.Claims

/-! ### A step as the move of its agent (R262, R270) -/

section Moves

variable {s : State} {i : Instr} {p : Pending}

theorem step_eq_hostMove (hm : mover s = .host) : step s = hostMove { s with turns := s.turns.tail } := by
  rw [step_eq, hm]

theorem step_eq_coreMove (hm : mover s = .core) : step s = coreMove { s with turns := s.turns.tail } := by
  rw [step_eq, hm]

/-- A step of the host's, with the list of moves written out, so that `hostMove` of it computes. -/
theorem step_eq_hostMove_of_cons {op : HostOp} {rest : List HostOp} (hm : mover s = .host) (hhost : s.host = op :: rest) :
    step s = hostMove { s with host := op :: rest, turns := s.turns.tail } := by
  rw [step_eq_hostMove hm, ← hhost]

/-- R262: with no move left the host's turn is all that passes. -/
theorem hostMove_of_nil (hhost : s.host = []) : hostMove s = .next s := by
  simp only [hostMove, hhost]

theorem coreMove_of_idle (hp : s.pending = none) : coreMove s = .next s := by
  simp only [coreMove, hp]

theorem coreMove_of_inFlight (hp : s.pending = some p) (hi : decode p.word = .ok i) : coreMove s = exec i s := by
  simp only [coreMove, hp, hi]

/-- R270, R232: the sequencer never stops where the word in flight is legal. -/
theorem coreMove_next (hpend : PendingOk s) : ∃ t, coreMove s = .next t := by
  cases hp : s.pending with
  | none => exact ⟨s, coreMove_of_idle hp⟩
  | some p =>
    obtain ⟨-, -, i, hi, -⟩ := hpend p hp
    rw [coreMove_of_inFlight hp hi]
    exact exec_next i s

/-- R232: a listening core runs the word it decodes. -/
theorem issue_of_listening {c : CmdWord} (hl : Listening s) (hi : decode c = .ok i) : issue c s = exec i s := by
  obtain ⟨hp, hfatal⟩ := hl
  simp [issue, hp, hfatal, hi]

/-- R238: a word written while a command is in flight is not decoded, but reported as BUSY. -/
theorem issue_of_busy (hp : s.pending = some p) (hfatal : s.status.fatal = false) (c : CmdWord) :
    issue c s = .next (takeError .busy s) := by
  simp [issue, hp, hfatal]

/-- R102: `wait` reads STATUS and stays the next move exactly while a command is in flight. -/
theorem hostWait_eq (s : State) :
    hostWait s =
      .next
        { s with
          host := if s.pending = none then s.host else .wait :: s.host
          responses := .data (memRead 0x020#10 8 s) :: s.responses } := by
  have hbit : (memRead 0x020#10 8 s)[0] = s.pending.isSome := statusWord_bit_busy _ _
  by_cases hidle : s.pending = none
  · simp [hostWait, hbit, hidle, record, statusOffset]
  · simp [hostWait, hbit, hidle, Option.isSome_iff_ne_none, record, statusOffset]

end Moves

/-! ### Legal accesses (R63) and the halves they reach (R66) -/

section Access

variable {off : Offset} {size : Nat}

theorem legalAccess_iff : legalAccess off size = true ↔ (size = 8 ∧ off.toNat % 8 = 0) ∨ (size = 4 ∧ off.toNat % 4 = 0) := by
  simp [legalAccess]

theorem hostRead_of_legal (hl : legalAccess off size = true) (s : State) :
    hostRead off size s = .next { s with responses := .data (readHalf off size (hostView (regAt off) s)) :: s.responses } := by
  rw [hostRead, if_pos hl]
  rfl

theorem highHalf_eq (off : Offset) : highHalf off = decide (off.toNat / 4 % 2 = 1) := by
  rw [highHalf, BitVec.getLsbD, Nat.testBit_eq_decide_div_mod_eq]

/-- R66: a 4-byte read gives its half with zero bits above it. -/
theorem setWidth_eq_zero_append (x : BitVec 32) : x.setWidth 64 = 0#32 ++ x :=
  BitVec.setWidth_eq_append (by decide)

theorem readHalf_low (hoff : off.toNat % 8 = 0) (v : Word) : readHalf off 4 v = 0#32 ++ v.extractLsb' 0 32 := by
  have hlow : highHalf off = false := by rw [highHalf_eq, decide_eq_false_iff_not]; omega
  simp [readHalf, hlow, ← setWidth_eq_zero_append]

theorem readHalf_high (hoff : off.toNat % 8 = 4) (v : Word) : readHalf off 4 v = 0#32 ++ v.extractLsb' 32 32 := by
  have hhigh : highHalf off = true := by rw [highHalf_eq, decide_eq_true_iff]; omega
  simp [readHalf, hhigh, ← setWidth_eq_zero_append]

end Access

/-- R62: a command word is its four bytes, the highest first. -/
theorem wordOfBytes_extractLsb' (c : CmdWord) :
    wordOfBytes (c.extractLsb' 0 8) (c.extractLsb' 8 8) (c.extractLsb' 16 8) (c.extractLsb' 24 8) = c := by
  unfold wordOfBytes
  iterate 3 rw [BitVec.extractLsb'_append_extractLsb'_eq_extractLsb' (by decide)]
  exact BitVec.extractLsb'_eq_self

/-- R90: what a table row's word decodes to in the window is what the decoder makes of the word. -/
theorem decode_tableWord {nbits w : Nat} {i : Instr} (h : decodeTableWord nbits w = some i) : decode (tableWord nbits w) = .ok i := by
  rw [decodeTableWord, bytesOfWord, decodeBytes, wordOfBytes_extractLsb'] at h
  cases hd : decode (tableWord nbits w) with
  | error e => rw [hd] at h; cases h
  | ok j => rw [hd] at h; cases h; rfl

/-! ### Where a write is dropped (R65, R67, R72) -/

/-- R72: with a command in flight a write to any register but CMD, STATUS and CTRL is dropped. -/
theorem memWrite_inFlight {off : Offset} {s : State} {p : Pending} (hne : regAt off ∉ [Reg.cmd, .status, .ctrl]) (hp : s.pending = some p)
    (size : Nat) (v : Word) : memWrite off size v s = .next s := by
  obtain ⟨t, ht⟩ := memWrite_next off size v s
  obtain rfl | ⟨hr, -⟩ | ⟨hr, -⟩ | ⟨hr, -⟩ | ⟨hidle, -⟩ := memWrite_cases ht
  · exact ht
  · simp [hr] at hne
  · simp [hr] at hne
  · simp [hr] at hne
  · simp [hp] at hidle

/-- R67: a write to a register that is neither CMD, STATUS nor CTRL, and that no operand write changes, is dropped, in flight or not. -/
theorem memWrite_of_readOnly {off : Offset} (hne : regAt off ∉ [Reg.cmd, .status, .ctrl])
    (hkeep : ∀ (w : Word) (s : State), writeOperand (regAt off) w s = s) (size : Nat) (v : Word) (s : State) :
    memWrite off size v s = .next s := by
  cases hp : s.pending with
  | some p => exact memWrite_inFlight hne hp size v
  | none => rw [memWrite_idle rfl hne hp, hkeep]

/-- R244: only the low 32 bits of the value written to STATUS matter. -/
theorem statusWrite_setWidth (v : Word) (s : State) : statusWrite ((v.setWidth 32).setWidth 64) s = statusWrite v s := by
  simp [statusWrite, Status.written]

/-! ### What a host move changes while a command is in flight (R72, R238, R270) -/

/-- With a command in flight a host write may change STATUS in ERR, ERRCODE and a cleared DONE alone. -/
def KeepsInFlight (st st' : Status) : Prop :=
  KeepsInstance st st' ∧ st'.fatal = st.fatal ∧ (st'.done = true → st.done = true)

section InFlight

variable {s t : State} {p : Pending}

/-- R238, R239: a word written to CMD reports BUSY, or nothing under FATAL. -/
theorem issue_inFlight {c : CmdWord} (hp : s.pending = some p) (h : issue c s = .next t) : t = s ∨ t = takeError .busy s := by
  obtain ⟨-, rfl⟩ | ⟨-, -, rfl⟩ | ⟨-, hidle, -⟩ | ⟨hidle, -⟩ := issue_cases h
  · exact .inl rfl
  · exact .inr rfl
  · simp [hp] at hidle
  · simp [hp] at hidle

theorem memWrite_inFlight_frame {off : Offset} {size : Nat} {v : Word} (hp : s.pending = some p) (h : memWrite off size v s = .next t) :
    ∃ ctrl status, t = { s with ctrl := ctrl, status := status } ∧ KeepsInFlight s.status status := by
  obtain rfl | ⟨-, hissue⟩ | ⟨-, rfl⟩ | ⟨-, rfl⟩ | ⟨hidle, -⟩ := memWrite_cases h
  · exact ⟨_, _, rfl, keepsInstance_refl _, rfl, id⟩
  · obtain rfl | rfl := issue_inFlight hp hissue
    · exact ⟨_, _, rfl, keepsInstance_refl _, rfl, id⟩
    · exact ⟨_, _, rfl, keepsInstance_raised _ _, by simp, by simp⟩
  · exact ⟨_, _, rfl, keepsInstance_written _ _, rfl, by simp⟩
  · exact ⟨_, _, rfl, keepsInstance_refl _, rfl, id⟩
  · simp [hp] at hidle

/-- R72: a step of the host's that is no reset changes CTRL, STATUS and the host's own fields alone. -/
theorem step_host_inFlight (hs : step s = .next t) (hp : s.pending = some p) (hm : mover s = .host) (ha : hostActs s ≠ some .reset) :
    ∃ ctrl status host turns responses,
      t = { s with ctrl := ctrl, status := status, host := host, turns := turns, responses := responses } ∧
        KeepsInFlight s.status status := by
  obtain ⟨-, -, hcore, -⟩ | ⟨hreset, -⟩ | ⟨off, size, v, -, -, -, -, hw⟩ | ⟨-, -, host, responses, rfl, -⟩ := step_cases hs
  · simp [hm] at hcore
  · contradiction
  · obtain ⟨ctrl, status, rfl, hkeep⟩ :=
      memWrite_inFlight_frame (s := { s with host := s.host.tail, turns := s.turns.tail }) hp hw
    exact ⟨_, _, _, _, _, rfl, hkeep⟩
  · exact ⟨_, _, _, _, _, rfl, keepsInstance_refl _, rfl, id⟩

end InFlight

/-! ### The statements -/

/-- Settles O21: the host's moves always answer, and under the invariant the word in flight decodes, so its completion does. -/
theorem stepNeverStops : Obligations.StepNeverStops := by
  intro s hinv
  cases hm : mover s with
  | host =>
    rw [step_eq_hostMove hm]
    exact hostMove_next _
  | core =>
    obtain ⟨hpend, -⟩ := hinv
    rw [step_eq_coreMove hm]
    exact coreMove_next (s := { s with turns := s.turns.tail }) hpend

/-- Settles O26, from what a host step can change while a command is in flight. -/
theorem inFlightUntouchedByHost : Obligations.InFlightUntouchedByHost := by
  intro s t p hs hp hm ha
  obtain ⟨_, status, _, _, _, rfl, ⟨hready, htoken, hvariant, -⟩, hfatal, hdone⟩ := step_host_inFlight hs hp hm ha
  exact ⟨hp, rfl, rfl, rfl, rfl, rfl, rfl, rfl, rfl, rfl, rfl, hready, htoken, hvariant, hfatal, hdone⟩

/-- Settles O17: each clause is the move of the step's agent, computed. -/
theorem stepRunsDecodedCommand : Obligations.StepRunsDecodedCommand := by
  refine ⟨fun s v rest i hl hm hhost hi => ?_, fun s p i hm hp hi => ?_, fun s hhost hp => ?_, fun s hm hp => ?_, fun s hm hhost => ?_,
    fun s off size rest hm hhost => step_eq_hostMove_of_cons hm hhost, fun s off size v rest hm hhost => step_eq_hostMove_of_cons hm hhost,
    fun s off size v hl => ?_, fun s rest hm hhost => ?_⟩
  · rw [step_eq_hostMove_of_cons hm hhost]
    exact issue_of_listening (s := { s with host := rest, turns := s.turns.tail }) hl hi
  · rw [step_eq_coreMove hm]
    exact coreMove_of_inFlight hp hi
  · cases hm : mover s with
    | host => rw [step_eq_hostMove hm]; exact hostMove_of_nil hhost
    | core => rw [step_eq_coreMove hm]; exact coreMove_of_idle hp
  · rw [step_eq_coreMove hm]
    exact coreMove_of_idle hp
  · rw [step_eq_hostMove hm]
    exact hostMove_of_nil hhost
  · exact if_pos (legalAccess_iff.mpr hl)
  · rw [step_eq_hostMove_of_cons hm hhost]
    exact hostWait_eq { s with host := rest, turns := s.turns.tail }

/-- Settles O18: the placed write is the next move of a listening core, and its word is the table's. -/
theorem fetchedWordRunsNext : Obligations.FetchedWordRunsNext := by
  intro nbits w i s h
  have hword : ((tableWord nbits w).setWidth 64).setWidth 32 = tableWord nbits w := by simp
  obtain ⟨hrun, -⟩ := stepRunsDecodedCommand
  refine hrun (s.withFetchWord nbits w) ((tableWord nbits w).setWidth 64) s.host i ⟨rfl, rfl⟩ rfl rfl ?_
  rw [hword]
  exact decode_tableWord h

/-- Settles O30: the view of each register, and `irq`, leave the three out. -/
theorem windowHidesSecrets : Obligations.WindowHidesSecrets := by
  intro off size s state key nonce
  have hview : ∀ r, hostView r { s with state := state, key := key, nonce := nonce } = hostView r s := fun r => by cases r <;> rfl
  exact ⟨congrArg (readHalf off size) (hview _), rfl⟩

/-- Settles O31: both accesses fail the check of R63. -/
theorem illegalAccessHasNoEffect : Obligations.IllegalAccessHasNoEffect := by
  intro off size v s h
  have hl : ¬legalAccess off size = true := fun hl => h (legalAccess_iff.mp hl)
  exact ⟨if_neg hl, if_neg hl⟩

/-- Settles O32: a legal read records the half of the view that its offset and size name. -/
theorem legalReadHasNoSideEffect : Obligations.LegalReadHasNoSideEffect := by
  refine ⟨fun off s hoff => ⟨?_, ?_⟩, fun off s hoff => ?_, fun s => ⟨fun _ => rfl, fun _ => rfl, rfl, rfl, rfl, rfl, fun _ => rfl,
    fun _ => rfl, fun _ => rfl⟩⟩
  · exact hostRead_of_legal (legalAccess_iff.mpr (.inl ⟨rfl, hoff⟩)) s
  · rw [hostRead_of_legal (legalAccess_iff.mpr (.inr ⟨rfl, by omega⟩)), readHalf_low hoff]
  · rw [hostRead_of_legal (legalAccess_iff.mpr (.inr ⟨rfl, by omega⟩)), readHalf_high hoff]

/-- Settles O33: each register's offsets are those with its index; the reserved ones are past every test of `regAt`. -/
theorem registerMap : Obligations.RegisterMap := by
  have hindex : ∀ k : Fin 9,
      regIndex (([Reg.id, .cap, .ctrl, .cmd, .status, .keyLen, .nonceLen, .seekPos, .ctr][k.val]?).getD .reserved) = some k.val := by decide
  refine ⟨fun off hoff => regAt_of_regIndex (hindex ⟨off.toNat / 8, by omega⟩), fun i k => ⟨?_, ?_⟩, fun j k => ⟨?_, ?_, ?_⟩,
    fun off hoff => ?_⟩
  case refine_6 =>
    simp (disch := omega) only [regAt, if_neg, dif_neg]
  all_goals
    refine regAt_of_regIndex ?_
    rw [regIndex, BitVec.toNat_ofNat, Option.some.injEq]
    omega

/-- Settles O36: an operand write is dropped, CTRL and STATUS are written, and CMD reports BUSY. -/
theorem busyDropsOperandWrites : Obligations.BusyDropsOperandWrites := by
  intro p v s hp
  refine ⟨fun off size hr => memWrite_inFlight (fun hmem => ?_) hp size v, rfl, congrArg Host.Outcome.next (statusWrite_setWidth v s),
    fun hfatal => issue_of_busy hp hfatal (v.setWidth 32)⟩
  obtain h | h | h : regAt off = .cmd ∨ regAt off = .status ∨ regAt off = .ctrl := by simpa using hmem
  all_goals simp [h] at hr

/-- Settles O38: no operand write changes these registers, and offset 0x024 is STATUS's high half. -/
theorem readOnlyIgnoresWrites : Obligations.ReadOnlyIgnoresWrites := by
  refine fun off size v s => ⟨fun hr => ?_, rfl⟩
  have hcases : regAt off = .id ∨ regAt off = .cap ∨ regAt off = .ctr ∨ regAt off = .reserved ∨ ∃ j, regAt off = .ksOut j := by
    simpa [or_assoc] using hr
  obtain hr | hr | hr | hr | ⟨j, hr⟩ := hcases
  all_goals exact memWrite_of_readOnly (by simp [hr]) (fun w s => by rw [hr]; rfl) size v s

end Sys2Proof.Proofs

/-! PROOFS. The family 30_encoding.md. First the layer its statements share: a word put together from the fields of its format, the word
behind each format's decoding, and from these that the decoder accepts no word but the encoder's. Then the statements. -/

namespace Sys2Proof.Proofs

open Sys2Proof.Machine Sys2Proof.Laws Sys2Proof.Claims

/-! ### A word and its fields (R90, R91) -/

section Fields

variable (c : CmdWord)

theorem extractLsb'_one_eq_ofBool (k : Nat) : c.extractLsb' k 1 = BitVec.ofBool (c.getLsbD k) := by
  ext j hj
  obtain rfl : j = 0 := by omega
  simp

/-- Format N: everything above OPC, then OPC. -/
theorem append_opcField : c.extractLsb' 8 24 ++ opcField c = c := by
  unfold opcField
  rw [BitVec.extractLsb'_append_extractLsb'_eq_extractLsb' (by decide)]
  exact BitVec.extractLsb'_eq_self

/-- Format X: the bits above X, then X, then OPC. -/
theorem append_xField : c.extractLsb' 9 23 ++ BitVec.ofBool (xField c) ++ opcField c = c := by
  unfold xField
  rw [← extractLsb'_one_eq_ofBool, BitVec.extractLsb'_append_extractLsb'_eq_extractLsb' (by decide)]
  exact append_opcField c

/-- Format V: the bits above VAR, then VAR, then OPC. -/
theorem append_varField : c.extractLsb' 10 22 ++ varField c ++ opcField c = c := by
  unfold varField
  rw [BitVec.extractLsb'_append_extractLsb'_eq_extractLsb' (by decide)]
  exact append_opcField c

/-- Format C: CNT, then ARG, then OPC. -/
theorem append_cntField : cntField c ++ (argField c ++ opcField c) = c := by
  unfold cntField argField opcField
  iterate 2 rw [BitVec.extractLsb'_append_extractLsb'_eq_extractLsb' (by decide)]
  exact BitVec.extractLsb'_eq_self

end Fields

/-- R93: with its high bit 0, VAR is one of the two that name a variant. -/
theorem varField_of_bit9 {c : CmdWord} (hbit : c.getLsbD 9 = false) : varField c = 0b00#2 ∨ varField c = 0b01#2 := by
  have hbits : BitVec.ofBool (c.getLsbD 9) ++ BitVec.ofBool (c.getLsbD 8) = varField c := by
    rw [← extractLsb'_one_eq_ofBool, ← extractLsb'_one_eq_ofBool]
    exact BitVec.extractLsb'_append_extractLsb'_eq_extractLsb' (by decide)
  rw [← hbits, hbit]
  cases c.getLsbD 8
  · exact .inl rfl
  · exact .inr rfl

/-! ### The word behind a decoded command, format by format (R91, R96) -/

section Formats

variable {c : CmdWord} {i : Instr}

theorem encode_of_decodeN {j : Instr} (h : decodeN c j = .ok i) (hopc : opcField c = j.opc) (hbits : j.operandBits = 0#32)
    (hwf : j.wellFormed = true) : i.wellFormed = true ∧ encode i = c := by
  unfold decodeN at h
  split at h <;> cases h
  next hzero =>
  refine ⟨hwf, ?_⟩
  calc encode i = (opcField c).setWidth 32 := by rw [encode, hbits, ← hopc, BitVec.zero_or]
    _ = 0#24 ++ opcField c := BitVec.setWidth_eq_append (by decide)
    _ = c := by rw [← hzero, append_opcField]

theorem encode_of_decodeV (h : decodeV c = .ok i) (hopc : opcField c = 0x01#8) : i.wellFormed = true ∧ encode i = c := by
  unfold decodeV at h
  split at h
  · cases h
  · next hzero =>
    split at h <;> cases h
    next hbit =>
    have hword : 0#22 ++ varField c ++ 0x01#8 = c := by rw [← Decidable.not_not.mp hzero, ← hopc, append_varField]
    obtain hvar | hvar := varField_of_bit9 (Bool.eq_false_iff.mpr hbit)
    all_goals
      rw [hvar] at hword ⊢
      exact ⟨rfl, hword⟩

theorem encode_of_decodeX (h : decodeX c = .ok i) (hopc : opcField c = 0x02#8) : i.wellFormed = true ∧ encode i = c := by
  unfold decodeX at h
  split at h <;> cases h
  next hzero =>
  have hword : 0#23 ++ BitVec.ofBool (xField c) ++ 0x02#8 = c := by rw [← hzero, ← hopc, append_xField]
  refine ⟨rfl, ?_⟩
  calc encode (.gen (xField c)) = 0#23 ++ BitVec.ofBool (xField c) ++ 0x02#8 := by cases xField c <;> rfl
    _ = c := hword

theorem encode_of_decodeC (h : decodeC c = .ok i) (hopc : opcField c = 0x10#8) : i.wellFormed = true ∧ encode i = c := by
  unfold decodeC at h
  split at h <;> cases h
  next hzero =>
  refine ⟨rfl, ?_⟩
  calc encode (.tperm (cntField c)) = cntField c ++ (0#8 ++ 0x10#8) := encode_tperm _
    _ = c := by rw [← hzero, ← hopc, append_cntField]

/-- R98: a legal word is the word of the well-formed command it decodes to. -/
theorem encode_of_decode (h : decode c = .ok i) : i.wellFormed = true ∧ encode i = c := by
  unfold decode at h
  split at h
  · next hopc => exact encode_of_decodeN h hopc rfl rfl
  split at h
  · next hopc => exact encode_of_decodeV h hopc
  split at h
  · next hopc => exact encode_of_decodeX h hopc
  split at h
  · next hopc => exact encode_of_decodeN h hopc rfl rfl
  split at h
  · next hopc => exact encode_of_decodeN h hopc rfl rfl
  split at h
  · next hopc => exact encode_of_decodeC h hopc
  split at h
  · next hopc => exact encode_of_decodeN h hopc rfl rfl
  split at h
  · next hopc => exact encode_of_decodeN h hopc rfl rfl
  split at h
  · next hopc => exact encode_of_decodeN h hopc rfl rfl
  · cases h

/-- R96, R98: the decoder is the inverse of the encoder on the well-formed commands, and accepts nothing else. -/
theorem decode_eq_ok_iff : decode c = .ok i ↔ i.wellFormed = true ∧ encode i = c :=
  ⟨encode_of_decode, fun ⟨hwf, hc⟩ => hc ▸ decode_encode hwf⟩

end Formats

/-! ### A listening core's answer to a check, and to a write of CMD (R67, R232) -/

section Listening

variable {s : State}

/-- R232, R233: a command that its own check rejects changes nothing but the report. -/
theorem exec_of_listening_rejected {i : Instr} {code : ErrCode} (hl : Listening s) (hcheck : checkOf i s = some code) :
    exec i s = .next (takeError code s) := by
  obtain ⟨hp, hfatal⟩ := hl
  rw [exec_idle i hp, hfatal, hcheck]
  rfl

/-- R93: a reserved VAR names no variant, so INIT's check stops before the lengths. -/
theorem initCheck_of_reserved {var : BitVec 2} (h0 : var ≠ 0b00#2) (h1 : var ≠ 0b01#2) (s : State) :
    initCheck var s = some .illegalCmd := by
  simp [initCheck, variantOfCode, h0, h1]

/-- R67, R69: a write that reaches CMD's low half issues the low 32 bits of its value. -/
theorem memWrite_cmd {off : Offset} {size : Nat} (hr : regAt off = .cmd) (hlow : reachesLow off size = true) (v : Word) (s : State) :
    memWrite off size v s = issue (v.setWidth 32) s := by
  simp only [memWrite, hr, hlow, if_true]

end Listening

/-! ### The statements -/

/-- Settles O1, which is `decode_encode`: the fields of each command's word are its operands. -/
theorem decodeOfEncode : Obligations.DecodeOfEncode := fun _ => decode_encode

/-- Settles O2: a legal word is the encoding of a well-formed command, so each command has the words listed for it and no others. -/
theorem legalWordsExactly : Obligations.LegalWordsExactly := by
  intro c i
  constructor
  · intro h
    obtain ⟨hwf, rfl⟩ := decode_eq_ok_iff.mp h
    cases i with
    | tperm n => exact .inr ⟨n, encode_tperm n, rfl⟩
    | init var =>
      obtain rfl | rfl : var = 0b00#2 ∨ var = 0b01#2 := by simpa [Instr.wellFormed] using hwf
      · exact .inl (by decide)
      · exact .inl (by decide)
    | gen x => cases x <;> exact .inl (by decide)
    | _ => exact .inl (by decide)
  · rintro (hlisted | ⟨n, rfl, rfl⟩)
    · exact (by decide : ∀ p ∈ _, decode p.1 = .ok p.2) (c, i) hlisted
    · exact decode_append_tperm n

/-- Settles O3: each word, laid out as bytes, is decoded. -/
theorem notationWordsDecode : Obligations.NotationWordsDecode := by
  unfold Obligations.NotationWordsDecode
  decide

/-- Settles O8: at issue INIT's check finds no variant for the code, and never comes to the lengths. -/
theorem reservedVariantRejected : Obligations.ReservedVariantRejected :=
  fun _ s hl h0 h1 => exec_of_listening_rejected (i := .init _) hl (initCheck_of_reserved h0 h1 s)

/-- Settles O39: both widths reach CMD's low half with the low 32 bits of the value, and 0x01C is CMD's high half. -/
theorem cmdWriteIssues : Obligations.CmdWriteIssues := by
  intro hi c v s
  refine ⟨?_, ?_, rfl⟩
  · rw [memWrite_cmd rfl rfl, BitVec.setWidth_append_eq_right]
  · rw [memWrite_cmd rfl rfl, BitVec.setWidth_append_eq_right]

end Sys2Proof.Proofs

/-! PROOFS. The family 40_permutation.md. First the laws of the pipeline: the quad mixer as 2-word mixers (R118, R119), the fixed point 0
(R117), DiagPerm in column form (R120), the word groups (R121) and the schedule's table (R144). Then the public part of a state, from
which every operation's public part follows (R116, R203). Then the statements. -/

namespace Sys2Proof.Proofs

open Sys2Proof.Machine Sys2Proof.Laws Sys2Proof.Claims

/-! ### The quad mixer as independent 2-word mixers (R118, R119) -/

@[simp] theorem roundF_zero : roundF 0#64 = 0#64 := by decide

theorem quadMix_eq_pairMix (x0 x1 x2 x3 : Word) :
    quadMix x0 x1 x2 x3 =
      { w0 := (pairMix x0 x2).1, w1 := (pairMix x1 x3).1, w2 := (pairMix x0 x2).2, w3 := (pairMix x1 x3).2 } := rfl

/-- R119: an equal pair gives 0 and itself, for F(0) = 0. -/
@[simp] theorem pairMix_self (a : Word) : pairMix a a = (0#64, a) := by
  simp [pairMix]

/-- R112, R118: the first of the two words that are mixed into word i. -/
def mixLow (i : Fin 16) : Fin 16 := ⟨4 * (i.val / 4) + i.val % 2, by omega⟩

/-- R112, R118: the second of the two words that are mixed into word i. -/
def mixHigh (i : Fin 16) : Fin 16 := ⟨4 * (i.val / 4) + i.val % 2 + 2, by omega⟩

/-- R112, R118: QuadMixAll is eight 2-word mixers, one for each pair. -/
theorem getElem_quadMixAll (s : Block) (i : Fin 16) :
    (quadMixAll s)[i] =
      if i.val % 4 < 2 then (pairMix s[mixLow i] s[mixHigh i]).1 else (pairMix s[mixLow i] s[mixHigh i]).2 := by
  fin_cases i <;> rfl

/-! ### The all-zero state (R117) -/

/-- R115: the repetition of a round is Mathlib's iterate. -/
theorem permRounds_eq_iterate (n : Nat) (s : Block) : permRounds n s = permRound^[n] s := by
  induction n with
  | zero => rfl
  | succ n ih => rw [Function.iterate_succ_apply', ← ih]; rfl

theorem quadMixAll_zero : quadMixAll (Vector.replicate 16 0#64) = Vector.replicate 16 0#64 := by
  ext1 i hi
  rw [Vector.getElem_replicate]
  refine (getElem_quadMixAll _ ⟨i, hi⟩).trans ?_
  simp

theorem diagPerm_replicate (w : Word) : diagPerm (Vector.replicate 16 w) = Vector.replicate 16 w := by
  ext1 i hi
  simp [getElem_diagPerm]

theorem permRound_zero : permRound (Vector.replicate 16 0#64) = Vector.replicate 16 0#64 := by
  rw [permRound, quadMixAll_zero, diagPerm_replicate]

theorem permRounds_zero (n : Nat) : permRounds n (Vector.replicate 16 0#64) = Vector.replicate 16 0#64 := by
  rw [permRounds_eq_iterate, Function.iterate_fixed permRound_zero]

/-! ### DiagPerm in column form (R120) -/

/-- R120: P moves word k of quad (q + k) mod 4 to word k of quad q. -/
theorem diagTable_column (q k : Fin 4) : (diagTable[4 * q.val + k.val]).val = 4 * ((q.val + k.val) % 4) + k.val := by
  decide +revert

theorem diagPerm_eq_unpack (s : Block) : diagPerm s = unpack (pack s).diag := by
  rw [← pack_diagPerm, unpack_pack]

theorem diagPerm_diagPerm (s : Block) : diagPerm (diagPerm s) = unpack (pack s).diag.diag := by
  rw [diagPerm_eq_unpack, pack_diagPerm]

theorem diagPerm_cubed (s : Block) : diagPerm (diagPerm (diagPerm s)) = unpack (pack s).diag.diag.diag := by
  rw [diagPerm_diagPerm, pack_diagPerm]

/-- R120: four lane rotations by k are a rotation by 4 k, so each column is back where it was. -/
theorem diagPerm_order_four (s : Block) : diagPerm (diagPerm (diagPerm (diagPerm s))) = s :=
  calc diagPerm (diagPerm (diagPerm (diagPerm s))) = unpack (pack s).diag.diag.diag.diag := by rw [diagPerm_cubed, pack_diagPerm]
    _ = unpack (pack s) := rfl
    _ = s := unpack_pack s

/-! ### The word groups (R121) -/

section Groups

variable {k : Fin 4} {s t : Block}

/-- R118: both words of a pair lie in one group. -/
theorem mix_mem_wordGroup : ∀ k : Fin 4, ∀ i ∈ wordGroup k, mixLow i ∈ wordGroup k ∧ mixHigh i ∈ wordGroup k := by decide

/-- R120, R121: P takes the words of group k from its source group. -/
theorem diagTable_mem_sourceGroup : ∀ k : Fin 4, ∀ i ∈ wordGroup k, diagTable[i] ∈ wordGroup (sourceGroup k) := by decide

theorem sourceGroup_involutive : Function.Involutive sourceGroup := by unfold Function.Involutive; decide

theorem agreeOn_quadMixAll (h : AgreeOn (wordGroup k) s t) : AgreeOn (wordGroup k) (quadMixAll s) (quadMixAll t) := by
  intro i hi
  obtain ⟨hlow, hhigh⟩ := mix_mem_wordGroup k i hi
  rw [getElem_quadMixAll, getElem_quadMixAll, h _ hlow, h _ hhigh]

theorem agreeOn_diagPerm (h : AgreeOn (wordGroup (sourceGroup k)) s t) : AgreeOn (wordGroup k) (diagPerm s) (diagPerm t) := by
  intro i hi
  rw [Fin.getElem_fin, Fin.getElem_fin, getElem_diagPerm, getElem_diagPerm]
  exact h _ (diagTable_mem_sourceGroup k i hi)

theorem agreeOn_permRound (h : AgreeOn (wordGroup (sourceGroup k)) s t) : AgreeOn (wordGroup k) (permRound s) (permRound t) :=
  agreeOn_diagPerm (agreeOn_quadMixAll h)

/-- R121: n rounds take group k from the group n steps back. -/
theorem agreeOn_permRounds (n : Nat) (h : AgreeOn (wordGroup (sourceGroup^[n] k)) s t) :
    AgreeOn (wordGroup k) (permRounds n s) (permRounds n t) := by
  induction n generalizing k with
  | zero => exact h
  | succ n ih => exact agreeOn_permRound (ih h)

/-- R121: an even number of steps back is the group itself. -/
theorem agreeOn_permRounds_of_even {n : Nat} (hn : Even n) (h : AgreeOn (wordGroup k) s t) :
    AgreeOn (wordGroup k) (permRounds n s) (permRounds n t) := by
  apply agreeOn_permRounds
  rwa [sourceGroup_involutive.iterate_even hn]

end Groups

/-! ### The state before the INIT rounds (R144) -/

/-- R144: the placement of key and nonce gives the spec's table, word by word. -/
theorem preRound_eq_preRoundTable (v : Variant) (key : Block) (nonce : KeyBlock) : preRound v key nonce = preRoundTable v key nonce := by
  cases v
  all_goals
    ext1 i hi
    interval_cases i <;> simp [preRound, preRoundTable, placeNonce, placeKey, wordAt, Variant.row]

/-! ### The public part of a state (R116, R203, R273) -/

/-- R273: the state with STATE, KEY, NONCE, DATA_IN, KS_OUT, TEST and the data read replaced by those of x. -/
def withSecretsOf (x s : State) : State :=
  { s with
    state := x.state, key := x.key, nonce := x.nonce, dataIn := x.dataIn, ksOut := x.ksOut, test := x.test, responses := x.responses }

/-- R273: the state with the secrets and the data read set to their values at reset; what is left is what may steer the core. -/
def publicPart (s : State) : State := withSecretsOf State.reset s

theorem sameButSecrets_iff {s t : State} : SameButSecrets s t ↔ publicPart s = publicPart t := by
  constructor
  · rintro ⟨state, key, nonce, dataIn, ksOut, test, responses, rfl⟩
    rfl
  · intro h
    have ht : t = withSecretsOf t s := (congrArg (withSecretsOf t) h).symm
    exact ⟨_, _, _, _, _, _, _, ht⟩

section Fields

variable (s : State)

@[simp] theorem publicPart_status : (publicPart s).status = s.status := rfl
@[simp] theorem publicPart_pending : (publicPart s).pending = s.pending := rfl
@[simp] theorem publicPart_host : (publicPart s).host = s.host := rfl
@[simp] theorem publicPart_busy : (publicPart s).busy = s.busy := rfl
@[simp] theorem publicPart_mover : mover (publicPart s) = mover s := rfl
@[simp] theorem publicPart_finish : publicPart (finish s) = finish (publicPart s) := rfl
@[simp] theorem publicPart_publicPart : publicPart (publicPart s) = publicPart s := rfl

end Fields

/-- Equal public parts, field by field, so that no secret is ever compared. -/
theorem publicPart_ext {s t : State} (hctr : s.ctr = t.ctr) (hid : s.id = t.id) (hcap : s.cap = t.cap) (hctrl : s.ctrl = t.ctrl)
    (hstatus : s.status = t.status) (hkeyLen : s.keyLen = t.keyLen) (hnonceLen : s.nonceLen = t.nonceLen)
    (hseekPos : s.seekPos = t.seekPos) (hpending : s.pending = t.pending) (hhost : s.host = t.host) (hturns : s.turns = t.turns) :
    publicPart s = publicPart t := by
  simp only [publicPart, withSecretsOf, *]

/-- The public part of what a step answers. -/
def publicOutcome : Outcome → Outcome
  | .next s => .next (publicPart s)
  | .fault f => .fault f
  | .refused r => .refused r

/-- A meaning whose answer has a public part that depends on nothing but the public part of the state. -/
def SteeredByPublic (f : State → Outcome) : Prop := ∀ s, publicOutcome (f s) = publicOutcome (f (publicPart s))

section Steered

variable (i : Instr) (b : Bool) (s : State)

theorem checkOf_publicPart : checkOf i (publicPart s) = checkOf i s := by cases i <;> rfl

theorem backendOf_publicPart : backendOf i (publicPart s) = backendOf i s := by cases i <;> rfl

/-- R116: no completion's public results depend on a secret; INIT's are CTR, VARIANT, TOKEN and READY. -/
theorem publicPart_effectOf : publicPart (effectOf i b s) = publicPart (effectOf i b (publicPart s)) := by
  cases i with
  | init var =>
    cases hv : variantOfCode var with
    | none => simp only [effectOf, initEffect, hv]; rfl
    | some v =>
      simp only [effectOf, initEffect_of_variant hv]
      apply publicPart_ext <;> rfl
  | _ => apply publicPart_ext <;> rfl

theorem exec_steered : SteeredByPublic (exec i) := by
  intro s
  cases hp : s.pending with
  | some p =>
    rw [exec_inFlight i hp, exec_inFlight i (s := publicPart s) hp]
    simp only [publicOutcome, publicPart_finish]
    rw [publicPart_effectOf]
  | none =>
    rw [exec_idle i hp, exec_idle i (s := publicPart s) hp, checkOf_publicPart, backendOf_publicPart, publicPart_status]
    split
    · rfl
    · cases checkOf i s <;> rfl

/-- R232: the checks of a command word are STATUS and BUSY, and then its own. -/
theorem issue_steered (c : CmdWord) : SteeredByPublic (issue c) := by
  intro s
  rw [issue, issue, publicPart_status, publicPart_busy]
  split
  · rfl
  split
  · rfl
  cases decode c with
  | error e => rfl
  | ok i => exact exec_steered i s

theorem publicPart_writeOperand (r : Reg) (w : Word) : publicPart (writeOperand r w s) = publicPart (writeOperand r w (publicPart s)) := by
  cases r <;> rfl

/-- R61, R273: the public part gives a register's value, or it hides every write to the register. -/
theorem current_publicPart_or_hidden (r : Reg) :
    current r (publicPart s) = current r s ∨ ∀ (w : Word) (t : State), publicPart (writeOperand r w t) = publicPart t := by
  cases r with
  | key i | nonce j | dataIn j | ksOut j | test i => exact .inr fun _ _ => rfl
  | _ => exact .inl rfl

/-- R68: a write by halves keeps the other half of the old value, which may be a secret only in a secret register. -/
theorem publicPart_writeOperand_writeValue (r : Reg) (off : Offset) (size : Nat) (v : Word) :
    publicPart (writeOperand r (writeValue off size v (current r s)) s) =
      publicPart (writeOperand r (writeValue off size v (current r (publicPart s))) (publicPart s)) := by
  obtain hpublic | hhidden := current_publicPart_or_hidden s r
  · rw [hpublic, ← publicPart_writeOperand]
  · rw [hhidden, hhidden, publicPart_publicPart]

theorem memWrite_steered (off : Offset) (size : Nat) (v : Word) : SteeredByPublic (memWrite off size v) := by
  intro s
  by_cases hr : regAt off ∈ [Reg.cmd, .status, .ctrl]
  · obtain hcmd | hstatus | hctrl : regAt off = .cmd ∨ regAt off = .status ∨ regAt off = .ctrl := by simpa using hr
    · simp only [memWrite, hcmd]
      split
      · exact issue_steered _ s
      · rfl
    · simp only [memWrite, hstatus]
      split <;> rfl
    · simp only [memWrite, hctrl]
      rfl
  · cases hp : s.pending with
    | some p =>
      rw [memWrite_inFlight hr hp, memWrite_inFlight (s := publicPart s) hr hp]
      rfl
    | none =>
      rw [memWrite_idle rfl hr hp, memWrite_idle (s := publicPart s) rfl hr hp]
      exact congrArg Host.Outcome.next (publicPart_writeOperand_writeValue s (regAt off) off size v)

/-- R66: a host read changes the responses alone. -/
theorem hostRead_steered (off : Offset) (size : Nat) : SteeredByPublic (hostRead off size) := by
  intro s
  unfold hostRead
  split <;> rfl

theorem hostWrite_steered (off : Offset) (size : Nat) (v : Word) : SteeredByPublic (hostWrite off size v) := by
  intro s
  unfold hostWrite
  split
  · exact memWrite_steered off size v s
  · rfl

theorem hostWait_steered : SteeredByPublic hostWait := by
  intro s
  rw [hostWait_eq, hostWait_eq]
  rfl

theorem hostMove_steered : SteeredByPublic hostMove := by
  intro s
  simp only [hostMove, publicPart_host]
  cases s.host with
  | nil => rfl
  | cons op rest =>
    cases op with
    | read off size => exact hostRead_steered off size { s with host := rest }
    | write off size v => exact hostWrite_steered off size v { s with host := rest }
    | wait => exact hostWait_steered { s with host := rest }
    | reset => rfl

/-- R270: the command that completes is PENDING's. -/
theorem coreMove_steered : SteeredByPublic coreMove := by
  intro s
  simp only [coreMove, publicPart_pending]
  cases s.pending with
  | none => rfl
  | some p =>
    simp only
    cases decode p.word with
    | error e => rfl
    | ok i => exact exec_steered i s

/-- R270: whose step it is, is for the turns and BUSY to say. -/
theorem step_steered : SteeredByPublic step := by
  intro s
  cases hm : mover s with
  | host =>
    rw [step_eq_hostMove hm, step_eq_hostMove ((publicPart_mover s).trans hm)]
    exact hostMove_steered { s with turns := s.turns.tail }
  | core =>
    rw [step_eq_coreMove hm, step_eq_coreMove ((publicPart_mover s).trans hm)]
    exact coreMove_steered { s with turns := s.turns.tail }

end Steered

/-! ### The statements -/

/-- Settles O29: the step's public part depends on the state's public part alone, and the two states share it. -/
theorem secretsDoNotSteer : Obligations.SecretsDoNotSteer := by
  intro s t s' t' hst hs ht
  have hpub : publicOutcome (step s) = publicOutcome (step t) := by
    rw [step_steered s, step_steered t, sameButSecrets_iff.mp hst]
  rw [hs, ht] at hpub
  exact sameButSecrets_iff.mpr (Host.Outcome.next.inj hpub)

/-- Settles O45: 0 is fixed by F, by each 2-word mixer, by P and so by every number of rounds. -/
theorem zeroLaws : Obligations.ZeroLaws := by
  refine ⟨roundF_zero, ?_, quadMixAll_zero, permRounds_zero⟩
  rw [quadMix_eq_pairMix, pairMix_self]

/-- Settles O47: the table's own properties are finite, and DiagPerm's powers are read off its column form. -/
theorem diagPermProperties : Obligations.DiagPermProperties := by
  refine ⟨by decide, by decide, by decide, by decide, by decide, by decide, diagPerm_order_four, diagPerm_cubed, diagPerm_diagPerm,
    fun s q k => ?_⟩
  rw [getElem_diagPerm]
  simp only [Fin.getElem_fin, diagTable_column]

/-- Settles O48: one round by its two halves, and an even number of rounds by going back through the groups. -/
theorem wordGroupsStayApart : Obligations.WordGroupsStayApart := by
  refine ⟨fun _ _ _ => agreeOn_permRound, fun _ _ _ _ hn => agreeOn_permRounds_of_even (Nat.even_iff.mpr hn), fun v => ?_⟩
  cases v <;> exact ⟨rfl, rfl⟩

/-- Settles O54: the pre-round state is R144's table, and the number of INIT rounds is even. -/
theorem scheduleKeepsGroupsApart : Obligations.ScheduleKeepsGroupsApart := by
  intro v k key key' nonce nonce' h
  obtain ⟨-, hrounds, heven⟩ := wordGroupsStayApart
  obtain ⟨hinit, -⟩ := heven v
  rw [preRound_eq_preRoundTable, preRound_eq_preRoundTable]
  exact hrounds k _ _ _ hinit h

/-- Settles O46: the split is QuadMix's definition, and an equal pair is `pairMix_self`. -/
theorem quadMixSplitsIntoPairs : Obligations.QuadMixSplitsIntoPairs := by
  refine ⟨quadMix_eq_pairMix, fun x0 x1 x2 x3 => ⟨?_, ?_⟩⟩
  all_goals
    rintro rfl
    simp [quadMix_eq_pairMix]

end Sys2Proof.Proofs

/-! PROOFS. The family 41_schedule.md. First the layer its statements share: the issue of INIT with the lengths of its variant or others
(R142), its completion as one record that takes KEY and NONCE in through R144's table alone, and what that table reads (R148, R149). Then
the statements. -/

namespace Sys2Proof.Proofs

open Sys2Proof.Machine Sys2Proof.Laws Sys2Proof.Claims

/-! ### The issue of INIT (R140, R142) -/

section Issue

variable {s : State}

@[simp] theorem variantOfCode_code (v : Variant) : variantOfCode v.code = some v := by
  cases v <;> rfl

/-- R92, R93: INIT's word for each variant. -/
theorem encode_init_code (v : Variant) : encode (.init v.code) = if v = .v512 then 0x00000001#32 else 0x00000101#32 := by
  cases v <;> decide

theorem probe_eq_probeBit (s : State) : probe s = probeBit s := by
  unfold probe probeBit
  cases s.cap <;> rfl

/-- R232 `accept`: a command that its own check passes is latched with its backend bit. -/
theorem exec_of_listening_accepted {i : Instr} (hl : Listening s) (hcheck : checkOf i s = none) :
    exec i s = .next (issued (encode i) (backendOf i s) s) := by
  obtain ⟨hp, hfatal⟩ := hl
  rw [exec_idle i hp, hfatal, hcheck]
  rfl

/-- R142: INIT's only check, for a variant's own code, is that of the two lengths. -/
theorem initCheck_code (v : Variant) (s : State) :
    initCheck v.code s = if s.keyLen = keyBytes v ∧ s.nonceLen = 64#16 then none else some .sizeMismatch := by
  have hlengths : lengthsMatch v s = decide (s.keyLen = keyBytes v ∧ s.nonceLen = 64#16) := by
    rw [Bool.decide_and]
    cases v <;> rfl
  simp only [initCheck, variantOfCode_code, hlengths, decide_eq_true_eq]

end Issue

/-! ### The completion of INIT (R140, R144 to R146) -/

section Completion

variable {v : Variant} {p : Pending} {s : State}

theorem initRounds_eq (v : Variant) : v.row.initRounds = if v = .v512 then 16 else 20 := by
  cases v <;> rfl

theorem initRounds_even (v : Variant) : Even v.row.initRounds := by
  cases v <;> decide

/-- R200, R202: what INIT builds is the same on every datapath but for TOKEN. -/
theorem construct_eq (v : Variant) (b : Bool) (s : State) :
    construct v b s =
      { s with
        state := permRounds v.row.initRounds (preRoundTable v s.key s.nonce)
        ctr := 0#64
        status := s.status.latched v b } := by
  rw [construct, engine_rounds, preRound_eq_preRoundTable]

theorem exec_init_inFlight (v : Variant) (hp : s.pending = some p) :
    exec (.init v.code) s = .next (finish (construct v p.backend s)) := by
  rw [exec_inFlight _ hp, effectOf, initEffect_of_variant (variantOfCode_code v)]

section SameTable

variable {key : Block} {nonce : KeyBlock} (h : preRoundTable v key nonce = preRoundTable v s.key s.nonce)
include h

/-- R144: KEY and NONCE reach what INIT builds through the pre-round state alone. -/
theorem construct_of_preRoundTable_eq (b : Bool) :
    construct v b { s with key := key, nonce := nonce } = { construct v b s with key := key, nonce := nonce } := by
  rw [construct_eq, construct_eq, h]

theorem exec_init_of_preRoundTable_eq (hp : s.pending = some p) :
    exec (.init v.code) { s with key := key, nonce := nonce } =
      .next { finish (construct v p.backend s) with key := key, nonce := nonce } := by
  rw [exec_init_inFlight (s := { s with key := key, nonce := nonce }) v hp, construct_of_preRoundTable_eq h]
  rfl

theorem exec_init_agree_of_preRoundTable_eq (hp : s.pending = some p) :
    ∃ t t', exec (.init v.code) s = .next t ∧ exec (.init v.code) { s with key := key, nonce := nonce } = .next t' ∧
      t'.state = t.state ∧ t'.ctr = t.ctr ∧ t'.status = t.status :=
  ⟨_, _, exec_init_inFlight v hp, exec_init_of_preRoundTable_eq h hp, rfl, rfl, rfl⟩

end SameTable

end Completion

/-! ### What R144's table reads of KEY and NONCE (R148, R149) -/

section Table

variable {key key' : Block} {nonce nonce' : KeyBlock}

/-- R148: in "512" word 12 is 0 where NONCE[4] would stand. -/
theorem preRoundTable_set_nonce4 (key : Block) (nonce : KeyBlock) (w : Word) :
    preRoundTable .v512 key (nonce.set 4 w) = preRoundTable .v512 key nonce := by
  simp [preRoundTable]

/-- R148: in "1024" word 12 is 0 where KEY[12] would stand. -/
theorem preRoundTable_set_key12 (key : Block) (nonce : KeyBlock) (w : Word) :
    preRoundTable .v1024 (key.set 12 w) nonce = preRoundTable .v1024 key nonce := by
  simp [preRoundTable]

/-- R143, R149: in "1024" the table holds the fold of the first eight words and the rest of KEY. -/
theorem preRoundTable_congr_fold (hfold : ∀ j : Fin 8, key[j.val] ^^^ nonce[j.val] = key'[j.val] ^^^ nonce'[j.val])
    (hrest : ∀ i : Fin 16, 8 ≤ i.val → key[i] = key'[i]) : preRoundTable .v1024 key nonce = preRoundTable .v1024 key' nonce' := by
  have hlow (j : Nat) (hj : j < 8) : key[j] ^^^ nonce[j] = key'[j] ^^^ nonce'[j] := hfold ⟨j, hj⟩
  have hhigh (i : Nat) (hi : i < 16) (h8 : 8 ≤ i) : key[i] = key'[i] := hrest ⟨i, hi⟩ h8
  simp [preRoundTable, hlow, hhigh]

/-- R149: bits flipped in both words cancel in the fold. -/
theorem fold_set_xor (key : Block) (nonce : KeyBlock) (j : Fin 8) (d : Word) (i : Fin 8) :
    (key.set j.val (key[j.val] ^^^ d))[i.val] ^^^ (nonce.set j.val (nonce[j.val] ^^^ d))[i.val] = key[i.val] ^^^ nonce[i.val] := by
  by_cases hij : j.val = i.val
  · simp only [hij, Vector.getElem_set_self]
    rw [BitVec.xor_assoc, BitVec.xor_comm d, BitVec.xor_assoc, BitVec.xor_self, BitVec.xor_zero]
  · rw [Vector.getElem_set_ne _ _ hij, Vector.getElem_set_ne _ _ hij]

end Table

/-! ### The statements -/

/-- Settles O7: a listening core's INIT meets no check but `initCheck`, which for a variant's code compares the two lengths. -/
theorem initSizeCheck : Obligations.InitSizeCheck := by
  intro v s hl
  have hcheck : checkOf (.init v.code) s = _ := initCheck_code v s
  have hbackend : backendOf (.init v.code) s = probeBit s := probe_eq_probeBit s
  split
  · next hlen => rw [exec_of_listening_accepted hl (hcheck.trans (if_pos hlen)), hbackend]
  · next hlen => exact exec_of_listening_rejected hl (hcheck.trans (if_neg hlen))

/-- Settles O11: the issue is O7's with the right lengths, and the completion is `construct`. -/
theorem initRuns : Obligations.InitRuns := by
  refine ⟨fun v s hl hkey hnonce => ?_, fun v p s hp => ?_⟩
  · rw [initSizeCheck v s hl, if_pos ⟨hkey, hnonce⟩, encode_init_code]
  · rw [exec_init_inFlight v hp, finish_eq_completed, construct_eq, initRounds_eq]
    rfl

/-- Settles O52: neither word stands in its variant's table. -/
theorem deadInputWords : Obligations.DeadInputWords := by
  intro p s w hp
  exact ⟨⟨_, exec_init_inFlight .v512 hp, exec_init_of_preRoundTable_eq (preRoundTable_set_nonce4 s.key s.nonce w) hp⟩,
    _, exec_init_inFlight .v1024 hp, exec_init_of_preRoundTable_eq (preRoundTable_set_key12 s.key s.nonce w) hp⟩

/-- Settles O53: the table holds KEY[0..7] and NONCE[0..7] as their fold, in which bits flipped in both cancel. -/
theorem foldCollisions : Obligations.FoldCollisions := by
  refine ⟨fun p s key nonce hp hfold hrest =>
    exec_init_agree_of_preRoundTable_eq (v := .v1024) (preRoundTable_congr_fold hfold hrest) hp, fun p s j d hp => ?_⟩
  have hrest (i : Fin 16) (h8 : 8 ≤ i.val) : (s.key.set j.val (s.key[j.val] ^^^ d))[i] = s.key[i] :=
    Vector.getElem_set_ne _ _ (by omega)
  exact exec_init_agree_of_preRoundTable_eq (v := .v1024)
    (preRoundTable_congr_fold (fold_set_xor s.key s.nonce j d) hrest) hp

/-- Settles O55: an even number of rounds keeps a group's agreement with the all-zero state, which no round changes. -/
theorem zeroInputStaysZero : Obligations.ZeroInputStaysZero := by
  refine ⟨fun v k key nonce hzero => ?_, fun v key nonce hzero => ?_⟩
  · have hpre : AgreeOn (wordGroup k) (preRound v key nonce) (Vector.replicate 16 0#64) := fun i hi => by
      rw [preRound_eq_preRoundTable, hzero i hi]
      simp
    have hpost := agreeOn_permRounds_of_even (initRounds_even v) hpre
    intro i hi
    rw [hpost i hi, permRounds_zero]
    simp
  · rw [preRound_eq_preRoundTable, hzero, permRounds_zero]

end Sys2Proof.Proofs

/-! PROOFS. The family 42_keystream.md. First the layer its statements share: the checks of GEN and SEEK, the block as KSBlock on every
datapath, and a command run from issue to completion. Then a cipher at a counter, the one thing a block depends on: what GEN and SEEK
make of it, and the keystream as a function of it (R173). Then the statements. -/

namespace Sys2Proof.Proofs

open Sys2Proof.Machine Sys2Proof.Laws Sys2Proof.Claims

/-! ### The checks and the words of GEN and SEEK (R160, R166) -/

section Checks

variable {s : State}

theorem genCheck_of_canGenerate (h : CanGenerate s) : genCheck s = none := by
  obtain ⟨hready, hctr⟩ := h
  simp [genCheck, hready, hctr]

theorem genCheck_of_exhausted (hready : s.status.ready = true) (hctr : s.ctr = lastCounter) : genCheck s = some .ctrExhausted := by
  simp [genCheck, hready, hctr]

theorem readyCheck_of_ready (hready : s.status.ready = true) : readyCheck s = none := by
  simp [readyCheck, hready]

theorem encode_gen (x : Bool) : encode (.gen x) = if x then 0x00000102#32 else 0x00000002#32 := by
  cases x <;> decide

end Checks

/-! ### The counter (R162) -/

/-- R170: only the last counter wraps to 0. -/
theorem succ_ne_zero_of_ne_lastCounter {c : Word} (h : c ≠ lastCounter) : c + 1#64 ≠ 0#64 := by
  unfold lastCounter at h
  bv_omega

theorem ofNat_ne_lastCounter {n : Nat} (h : n < 2 ^ 64 - 1) : BitVec.ofNat 64 n ≠ lastCounter := by
  unfold lastCounter
  bv_omega

/-! ### The block (R161, R164, R169) -/

section Block

variable (st : Block) (kr : Nat) (c : Word)

/-- R164: the block is words 0 to 7 of the scratch array. -/
theorem getElem_ksBlock {j : Nat} (hj : j < 8) : (ksBlock st kr c)[j] = (permRounds kr (scratch st c))[j] := by
  interval_cases j <;> rfl

/-- R200: the block is KSBlock on every datapath. -/
@[simp] theorem keystreamBlock_eq_ksBlock (e : Engine) : keystreamBlock e st kr c = ksBlock st kr c := by
  rw [keystreamBlock, engine_rounds, ksBlock]

theorem keystreamRounds_even (v : Variant) : Even v.row.keystreamRounds := by
  cases v <;> decide

theorem keystreamRounds_eq (v : Variant) : v.row.keystreamRounds = if v = .v512 then 8 else 10 := by
  cases v <;> rfl

/-- R169: word 12, the counter's, lies in G2 alone. -/
theorem agreeOn_scratch (c' : Word) {k : Fin 4} (hk : k ≠ 2) : AgreeOn (wordGroup k) (scratch st c) (scratch st c') := by
  have hfree : ∀ k : Fin 4, k ≠ 2 → ∀ i ∈ wordGroup k, 12 ≠ i.val := by decide
  intro i hi
  have hne := hfree k hk i hi
  exact (Vector.getElem_set_ne _ _ hne).trans (Vector.getElem_set_ne _ _ hne).symm

/-- R169: of the words of a block, only 4 and 6 lie in G2. -/
theorem exists_wordGroup_of_ne (j : Fin 8) (h4 : j ≠ 4) (h6 : j ≠ 6) :
    ∃ k : Fin 4, k ≠ 2 ∧ j.castLE (by decide) ∈ wordGroup k := by
  decide +revert

/-- R169: a word of a block outside G2 never sees the counter. -/
theorem getElem_ksBlock_indep_counter (c' : Word) (v : Variant) {j : Fin 8} (h4 : j ≠ 4) (h6 : j ≠ 6) :
    (ksBlock st v.row.keystreamRounds c)[j] = (ksBlock st v.row.keystreamRounds c')[j] := by
  obtain ⟨k, hk, hmem⟩ := exists_wordGroup_of_ne j h4 h6
  rw [Fin.getElem_fin, Fin.getElem_fin, getElem_ksBlock, getElem_ksBlock]
  exact agreeOn_permRounds_of_even (keystreamRounds_even v) (agreeOn_scratch st c c' hk) _ hmem

end Block

section Output

variable (block data : KeyBlock)

@[simp] theorem outputBlock_raw : outputBlock false block data = block := by
  ext1 j hj
  simp [outputBlock]

theorem getElem_outputBlock_xor {j : Nat} (hj : j < 8) : (outputBlock true block data)[j] = data[j] ^^^ block[j] := by
  simp [outputBlock, BitVec.xor_comm]

/-- R172: the block XORed in twice cancels. -/
theorem outputBlock_xor_involutive : Function.Involutive (outputBlock true block) := by
  intro data
  ext1 j hj
  rw [getElem_outputBlock_xor, getElem_outputBlock_xor, BitVec.xor_assoc, BitVec.xor_self, BitVec.xor_zero]

end Output

/-! ### A command from issue to completion (R270) -/

section Run

variable {s : State} {i : Instr}

/-- R270: nothing of the issue is left after the completion: it reads neither PENDING nor DONE and writes both. -/
theorem finish_effectOf_accept (i : Instr) (b : Bool) (w : CmdWord) (s : State) :
    finish (effectOf i b (accept w b s)) = finish (effectOf i b s) := by
  cases i with
  | init var =>
    simp only [effectOf, initEffect]
    split <;> rfl
  | _ => rfl

theorem runCommand_of_accepted (hl : Listening s) (hcheck : checkOf i s = none) :
    runCommand i s = .next (finish (effectOf i (backendOf i s) s)) := by
  have hissue : exec i s = .next (accept (encode i) (backendOf i s) s) := exec_of_listening_accepted hl hcheck
  simp only [runCommand, hissue, busy_eq, accept_pending, Option.isSome_some, if_true]
  rw [exec_inFlight i (accept_pending s _ _), finish_effectOf_accept]

theorem runCommand_of_rejected {code : ErrCode} (hl : Listening s) (hcheck : checkOf i s = some code) :
    runCommand i s = .next (takeError code s) := by
  have hrun := exec_of_listening_rejected hl hcheck
  obtain ⟨hp, -⟩ := hl
  simp [runCommand, hrun, hp]

/-- R270: after a completion the core listens again, for no completion sets FATAL. -/
theorem listening_finish_effectOf (hl : Listening s) (i : Instr) (b : Bool) : Listening (finish (effectOf i b s)) := by
  obtain ⟨-, hfatal⟩ := hl
  obtain ⟨-, -, -, -, hkeep⟩ := effectOf_constants i b s
  exact ⟨rfl, hkeep.trans hfatal⟩

end Run

/-! ### A cipher at a counter (R41, R165) -/

/-- R41: a listening core with a cipher of variant v whose STATE is st, at CTR = c. -/
structure HasCipher (st : Block) (v : Variant) (c : Word) (s : State) : Prop where
  listening : Listening s
  ready : s.status.ready = true
  variant : s.status.variant = v
  state : s.state = st
  ctr : s.ctr = c

section Cipher

variable {st : Block} {v : Variant} {c : Word} {s : State}

theorem hasCipher_self (hl : Listening s) (hready : s.status.ready = true) : HasCipher s.state s.status.variant s.ctr s :=
  ⟨hl, hready, rfl, rfl, rfl⟩

/-- R26, R32: the operands of GEN and SEEK are no part of the cipher. -/
theorem hasCipher_withOperands (h : HasCipher st v c s) (data : KeyBlock) (pos : Word) :
    HasCipher st v c { s with dataIn := data, seekPos := pos } :=
  ⟨h.listening, h.ready, h.variant, h.state, h.ctr⟩

/-- R160: GEN gives the block of the counter c + 1 and leaves the cipher there. -/
theorem runCommand_gen (h : HasCipher st v c s) (hc : c ≠ lastCounter) (x : Bool) :
    ∃ t, runCommand (.gen x) s = .next t ∧ HasCipher st v (c + 1#64) t ∧
      t.ksOut = outputBlock x (ksBlock st v.row.keystreamRounds (c + 1#64)) s.dataIn := by
  obtain ⟨hl, hready, rfl, rfl, rfl⟩ := h
  refine ⟨_, runCommand_of_accepted hl (genCheck_of_canGenerate ⟨hready, hc⟩), ?_, ?_⟩
  · exact ⟨listening_finish_effectOf hl _ _, hready, rfl, rfl, rfl⟩
  · simp [effectOf]

/-- R162: GEN at the last counter gives no block, but FATAL. -/
theorem runCommand_gen_of_exhausted (h : HasCipher st v lastCounter s) (x : Bool) :
    runCommand (.gen x) s = .next (takeError .ctrExhausted s) :=
  runCommand_of_rejected h.listening (genCheck_of_exhausted h.ready h.ctr)

/-- R166: SEEK moves the cipher to SEEK_POS, and keeps DATA_IN. -/
theorem runCommand_seek (h : HasCipher st v c s) :
    ∃ t, runCommand .seek s = .next t ∧ HasCipher st v s.seekPos t ∧ t.dataIn = s.dataIn := by
  obtain ⟨hl, hready, hvariant, hstate, -⟩ := h
  exact ⟨_, runCommand_of_accepted hl (readyCheck_of_ready hready),
    ⟨listening_finish_effectOf hl _ _, hready, hvariant, hstate, rfl⟩, rfl⟩

/-- R140: INIT makes a cipher of KEY, NONCE and the variant alone. -/
theorem runCommand_init (hl : Listening s) (hkey : s.keyLen = keyBytes v) (hnonce : s.nonceLen = 64#16) :
    ∃ t, runCommand (.init v.code) s = .next t ∧
      HasCipher (permRounds v.row.initRounds (preRoundTable v s.key s.nonce)) v 0#64 t := by
  have hcheck : checkOf (.init v.code) s = none := (initCheck_code v s).trans (if_pos ⟨hkey, hnonce⟩)
  have heffect : effectOf (.init v.code) (backendOf (.init v.code) s) s = construct v _ s :=
    initEffect_of_variant (variantOfCode_code v) _ s
  have hlisten := listening_finish_effectOf hl (.init v.code) (backendOf (.init v.code) s)
  refine ⟨_, runCommand_of_accepted hl hcheck, ?_⟩
  rw [heffect, construct_eq] at hlisten ⊢
  exact ⟨hlisten, rfl, rfl, rfl, rfl⟩

/-- R168: n GENs move the cipher n counters on, as long as none of them finds the last counter. -/
theorem runCommands_gen (h : HasCipher st v 0#64 s) {n : Nat} (hn : n ≤ 2 ^ 64 - 1) :
    ∃ t, runCommands (.gen false) n s = .next t ∧ HasCipher st v (BitVec.ofNat 64 n) t := by
  induction n with
  | zero => exact ⟨s, rfl, h⟩
  | succ n ih =>
    obtain ⟨t, hrun, ht⟩ := ih (by omega)
    obtain ⟨u, hgen, hu, -⟩ := runCommand_gen ht (ofNat_ne_lastCounter (by omega)) false
    refine ⟨u, ?_, by rwa [BitVec.ofNat_add]⟩
    simp only [runCommands, hrun, hgen]

/-- R173: the blocks that a sequence of GENs and SEEKs gets from a cipher at a counter, up to a GEN at the last one. -/
def blocksFrom (st : Block) (v : Variant) : List Play → Word → List KeyBlock
  | [], _ => []
  | .gen x data :: ops, c =>
    if c = lastCounter then []
    else outputBlock x (ksBlock st v.row.keystreamRounds (c + 1#64)) data :: blocksFrom st v ops (c + 1#64)
  | .seek n :: ops, _ => blocksFrom st v ops n

/-- R173: the KS_OUT sequence is a function of STATE, the variant and CTR. -/
theorem keystreamOf_eq_blocksFrom (ops : List Play) (h : HasCipher st v c s) : keystreamOf ops s = blocksFrom st v ops c := by
  induction ops generalizing s c with
  | nil => rfl
  | cons op ops ih =>
    cases op with
    | gen x data =>
      have hs := hasCipher_withOperands h data s.seekPos
      by_cases hc : c = lastCounter
      · subst hc
        simp [keystreamOf, blocksFrom, runCommand_gen_of_exhausted hs]
      · obtain ⟨t, hrun, ht, hout⟩ := runCommand_gen hs hc x
        obtain ⟨-, hfatal⟩ := ht.listening
        simp [keystreamOf, blocksFrom, hrun, hfatal, hc, hout, ih ht]
    | seek n =>
      obtain ⟨t, hrun, ht, -⟩ := runCommand_seek (hasCipher_withOperands h s.dataIn n)
      simp only [keystreamOf, blocksFrom, hrun, ih ht]

end Cipher

/-! ### A step that completes a command (R270) -/

/-- R71, R270: the one thing such a step does besides taking its turn is the completion of the command in flight. -/
theorem step_of_completes {s t : State} {i : Instr} (hc : completes s = some i) (hs : step s = .next t) :
    ∃ p, s.pending = some p ∧ decode p.word = .ok i ∧ t = { finish (effectOf i p.backend s) with turns := s.turns.tail } := by
  obtain ⟨p, j, -, hp, hj, hcj, -, rfl⟩ | ⟨-, hm, -⟩ | ⟨_, _, _, -, hnone, -⟩ | ⟨hnone, -⟩ := step_cases hs
  · obtain rfl : j = i := Option.some.inj (hcj.symm.trans hc)
    exact ⟨p, hp, hj, rfl⟩
  · simp [completes, hm] at hc
  · simp [hnone] at hc
  · simp [hnone] at hc

/-! ### The statements -/

/-- Settles O12: GEN's check passes, its completion is `genEffect`, and every datapath's block is KSBlock. -/
theorem genRuns : Obligations.GenRuns := by
  refine ⟨fun x s hl hready hctr => ?_, fun x p s hp => ?_, fun st kr c j => getElem_ksBlock st kr c j.isLt⟩
  · have hcheck : checkOf (.gen x) s = none := genCheck_of_canGenerate ⟨hready, hctr⟩
    rw [exec_of_listening_accepted hl hcheck, encode_gen]
    rfl
  · rw [exec_inFlight _ hp, finish_eq_completed]
    simp only [effectOf, genEffect, keystreamBlock_eq_ksBlock, outputBlock, Fin.getElem_fin, getElem_ksBlock, keystreamRounds_eq, scratch]

/-- Settles O56: the counter's word 12 lies in G2, which an even number of rounds keeps apart from the groups of the six words. -/
theorem counterReachesTwoWordsOnly : Obligations.CounterReachesTwoWordsOnly := by
  intro v st c c'
  refine ⟨fun j => getElem_ksBlock_indep_counter st c c' v, fun m hm => ?_⟩
  have hword : m / 8 < 8 := by omega
  have h4 : (⟨m / 8, hword⟩ : Fin 8) ≠ 4 := Fin.ne_of_val_ne (show m / 8 ≠ 4 by omega)
  have h6 : (⟨m / 8, hword⟩ : Fin 8) ≠ 6 := Fin.ne_of_val_ne (show m / 8 ≠ 6 by omega)
  rw [getElem?_le64Encode_toList _ hword, getElem?_le64Encode_toList _ hword]
  exact congrArg (fun w => some (wordByte w (m % 8))) (getElem_ksBlock_indep_counter st c c' v h4 h6)

/-- Settles O57: a GEN in flight has a counter left, by the invariant, and only the last counter's successor is 0. -/
theorem noBlockForCounterZero : Obligations.NoBlockForCounterZero := by
  intro x s t hinv hc hs
  obtain ⟨p, hp, hi, rfl⟩ := step_of_completes hc hs
  obtain ⟨hpend, -⟩ := hinv
  obtain ⟨-, -, i, hi', -, hflight⟩ := hpend p hp
  obtain rfl : i = .gen x := by simpa [hi'] using hi
  obtain ⟨-, -, hctr⟩ := hflight
  exact ⟨rfl, succ_ne_zero_of_ne_lastCounter hctr⟩

/-- Settles O58: SEEK and n GENs both lead to the cipher at counter n, and GEN's block is a function of that. -/
theorem seekLaw : Obligations.SeekLaw := by
  refine ⟨fun s n hl hready hn => ?_, fun s n hl hready hzero hn => ?_⟩
  · obtain ⟨a, hseek, ha, -⟩ := runCommand_seek (hasCipher_withOperands (hasCipher_self hl hready) s.dataIn (BitVec.ofNat 64 n))
    obtain ⟨b, hgen, -, hout⟩ := runCommand_gen ha (ofNat_ne_lastCounter hn) false
    exact ⟨a, b, hseek, ha.state, ha.ctr, ha.variant, hgen, by rw [hout, outputBlock_raw, BitVec.ofNat_add]⟩
  · have h0 := hasCipher_self hl hready
    rw [hzero] at h0
    obtain ⟨a, hgens, ha⟩ := runCommands_gen h0 hn.le
    obtain ⟨b, hgen, -, hout⟩ := runCommand_gen ha (ofNat_ne_lastCounter hn) false
    exact ⟨a, b, hgens, ha.state, ha.ctr, ha.variant, hgen, by rw [hout, outputBlock_raw, BitVec.ofNat_add]⟩

/-- Settles O59: SEEK brings the cipher back to the same counter, and the same block XORed in twice cancels. -/
theorem xorInvolution : Obligations.XorInvolution := by
  intro s d hl hcan
  obtain ⟨hready, hctr⟩ := hcan
  obtain ⟨a, hrun, ha, hout⟩ := runCommand_gen (hasCipher_withOperands (hasCipher_self hl hready) d s.seekPos) hctr true
  obtain ⟨b, hseek, hb, hdata⟩ := runCommand_seek (hasCipher_withOperands ha a.ksOut s.ctr)
  obtain ⟨c, hrun', -, hout'⟩ := runCommand_gen hb hctr true
  refine ⟨a, b, c, hrun, ?_, hseek, hrun', ?_⟩
  · rw [hout]
    ext1 j hj
    rw [getElem_outputBlock_xor, Vector.getElem_ofFn]
    rfl
  · rw [hout', hdata, hout]
    exact outputBlock_xor_involutive _ d

/-- Settles O60: both INITs build the same cipher at counter 0, and the keystream is a function of the cipher. -/
theorem keystreamIsDetermined : Obligations.KeystreamIsDetermined := by
  intro v s s' hl hl' hkey hnonce hkeyLen hnonceLen hk hn
  obtain ⟨t, hrun, ht⟩ := runCommand_init hl hk hn
  obtain ⟨t', hrun', ht'⟩ := runCommand_init hl' (hkeyLen ▸ hk) (hnonceLen ▸ hn)
  rw [← hkey, ← hnonce] at ht'
  refine ⟨t, t', hrun, hrun', ht.state.trans ht'.state.symm, fun ops => ?_⟩
  rw [keystreamOf_eq_blocksFrom ops ht, keystreamOf_eq_blocksFrom ops ht']

/-- Settles O9: GEN's check finds the counter exhausted, and the report of that code is the whole effect. -/
theorem exhaustedCounterIsFatal : Obligations.ExhaustedCounterIsFatal :=
  fun x _ hl hready hctr => exec_of_listening_rejected (i := .gen x) hl (genCheck_of_exhausted hready hctr)

/-- Settles O13: SEEK's only check is READY, and its completion writes CTR. -/
theorem seekRuns : Obligations.SeekRuns :=
  ⟨fun _ hl hready => exec_of_listening_accepted hl (readyCheck_of_ready hready), fun _ _ hp => exec_inFlight _ hp⟩

end Sys2Proof.Proofs

/-! PROOFS. The family 43_backend.md. First the scalar counterpart of a state: the same state on a core without a vector datapath, with
every trace of the backend 0. Two states differ only in the backend exactly when they have the same counterpart (R201), and every command
runs there as it runs here (R200). Then the statements. -/

namespace Sys2Proof.Proofs

open Sys2Proof.Machine Sys2Proof.Laws Sys2Proof.Claims

/-! ### The scalar counterpart of a state (R193, R201) -/

/-- R201: the state with CAP, CTRL, TOKEN and PENDING, the registers that show the backend, replaced by those of x. -/
def withBackendOf (x s : State) : State :=
  { s with cap := x.cap, ctrl := x.ctrl, status := { s.status with token := x.status.token }, pending := x.pending }

/-- R193, R201: the state on a core without a vector datapath: CAP says so, and CTRL, TOKEN and the bit b in flight are 0. -/
def onScalarCore (s : State) : State :=
  { s with
    cap := .scalarOnly
    ctrl := 0#3
    status := { s.status with token := false }
    pending := (s.pending.map Pending.word).map fun w => { word := w, backend := false } }

theorem sameButBackend_iff {s t : State} : SameButBackend s t ↔ onScalarCore s = onScalarCore t := by
  constructor
  · rintro ⟨⟨cap, ctrl, token, ht⟩, hword⟩
    rw [ht]
    simp only [onScalarCore, hword]
  · intro h
    have ht : t = withBackendOf t s := (congrArg (withBackendOf t) h).symm
    have hpending : (onScalarCore s).pending.map Pending.word = (onScalarCore t).pending.map Pending.word := by rw [h]
    exact ⟨⟨_, _, _, ht⟩, by simpa [onScalarCore, Function.comp_def] using hpending⟩

theorem onScalarCore_pending_of_some {s : State} {p : Pending} (hp : s.pending = some p) :
    (onScalarCore s).pending = some ⟨p.word, false⟩ := by
  simp [onScalarCore, hp]

theorem onScalarCore_pending_of_none {s : State} (hp : s.pending = none) : (onScalarCore s).pending = none := by
  simp [onScalarCore, hp]

section ScalarCore

variable (i : Instr) (b : Bool) (s : State)

@[simp] theorem onScalarCore_status_fatal : (onScalarCore s).status.fatal = s.status.fatal := rfl

theorem onScalarCore_takeError (code : ErrCode) : onScalarCore (takeError code s) = takeError code (onScalarCore s) := rfl

theorem onScalarCore_finish : onScalarCore (finish s) = finish (onScalarCore s) := rfl

theorem onScalarCore_accept (w : CmdWord) : onScalarCore (accept w b s) = accept w false (onScalarCore s) := rfl

theorem checkOf_onScalarCore : checkOf i (onScalarCore s) = checkOf i s := by cases i <;> rfl

/-- R193: without a vector datapath both the probe and the cached token give 0. -/
theorem backendOf_onScalarCore : backendOf i (onScalarCore s) = false := by cases i <;> rfl

/-- R200: a completion gives what the scalar datapath gives; INIT's TOKEN is its only trace of b. -/
theorem onScalarCore_effectOf : onScalarCore (effectOf i b s) = effectOf i false (onScalarCore s) := by
  cases i with
  | init var =>
    cases hv : variantOfCode var with
    | none => simp only [effectOf, initEffect, hv]
    | some v =>
      simp only [effectOf, initEffect_of_variant hv, construct, engine_rounds]
      rfl
  | gen x =>
    simp only [effectOf, genEffect, keystreamBlock_eq_ksBlock]
    rfl
  | tperm _ | tqmix | tdperm | tf =>
    simp only [effectOf, engine_rounds, engine_quadMixAll, engine_diagPerm, engine_mapF]
    rfl
  | nop | seek | zeroize => rfl

end ScalarCore

/-- R200, R201: a command runs on the scalar counterpart to the counterpart of what it runs to, at its issue and at its completion. -/
theorem exec_onScalarCore {i : Instr} {s t : State} (h : exec i s = .next t) : exec i (onScalarCore s) = .next (onScalarCore t) := by
  obtain ⟨p, hp, rfl⟩ | ⟨hp, hfatal, hunder, rfl⟩ | ⟨hp, hruns, code, hcheck, rfl⟩ | ⟨hp, hruns, hcheck, rfl⟩ := exec_cases h
  · rw [exec_inFlight i (onScalarCore_pending_of_some hp), onScalarCore_finish, onScalarCore_effectOf]
  · simp [exec_idle i (onScalarCore_pending_of_none hp), hfatal, hunder]
  · simp [exec_idle i (onScalarCore_pending_of_none hp), hruns, checkOf_onScalarCore, hcheck, onScalarCore_takeError]
  · simp [exec_idle i (onScalarCore_pending_of_none hp), hruns, checkOf_onScalarCore, hcheck, backendOf_onScalarCore, onScalarCore_accept]

/-! ### The statements -/

/-- Settles O49: packing carries each operation of a vector datapath to the scalar one's, and the block follows from the rounds. -/
theorem datapathsAgree : Obligations.DatapathsAgree := fun e s =>
  ⟨engine_rounds e s, fun kr c => keystreamBlock_eq_ksBlock s kr c e, engine_quadMixAll e s, engine_diagPerm e s, engine_mapF e s⟩

/-- Settles O50: the two states have one scalar counterpart, and both runs end in the counterpart of its run. -/
theorem noTraceOfTheBackend : Obligations.NoTraceOfTheBackend := by
  intro i s t s' t' hst hs ht
  have hrun := exec_onScalarCore hs
  rw [sameButBackend_iff.mp hst, exec_onScalarCore ht] at hrun
  exact sameButBackend_iff.mpr (Host.Outcome.next.inj hrun).symm

end Sys2Proof.Proofs

/-! PROOFS. The family 44_control_test.md. First the layer its statements share: the issue of a command that meets no check of its own and
asks the probe for its datapath (R232), and of ZEROIZE, which FATAL does not stop (R239). Then the statements. -/

namespace Sys2Proof.Proofs

open Sys2Proof.Machine Sys2Proof.Laws Sys2Proof.Claims

/-! ### The issue of the commands without a check (R210 to R216, R232, R239) -/

section Unchecked

variable {s : State}

/-- R232: a command without a check of its own, and without a cipher whose TOKEN it would follow, is latched with the probe's bit. -/
theorem exec_of_listening_unchecked {i : Instr} (hl : Listening s) (hcheck : checkOf i = noCheck) (hbackend : backendOf i = probe) :
    exec i s = .next (issued (encode i) (probeBit s) s) := by
  rw [exec_of_listening_accepted hl (congrFun hcheck s), hbackend, probe_eq_probeBit]

/-- R239: ZEROIZE is the command that FATAL does not filter, so only a command in flight keeps it from being accepted. -/
theorem exec_zeroize_idle (hp : s.pending = none) : exec .zeroize s = .next (issued (encode .zeroize) (probeBit s) s) := by
  rw [exec_idle .zeroize hp, ← probe_eq_probeBit, underFatal, Bool.not_true, Bool.and_false]
  rfl

end Unchecked

/-! ### The statements -/

/-- Settles O10: NOP meets no check, and its completion is the end of BUSY alone. -/
theorem nopRuns : Obligations.NopRuns :=
  ⟨fun _ hl => exec_of_listening_unchecked hl rfl rfl, fun _ _ hp => exec_inFlight _ hp⟩

/-- Settles O14: ZEROIZE passes the FATAL filter, and its completion is `scrub`. -/
theorem zeroizeRuns : Obligations.ZeroizeRuns :=
  ⟨fun _ hp => exec_zeroize_idle hp, fun _ _ hp => exec_inFlight _ hp⟩

/-- Settles O15: no test command has a check, not even READY's; TPERM's word carries its count above OPC. -/
theorem testCommandsAccepted : Obligations.TestCommandsAccepted := by
  intro s hl
  refine ⟨fun n => ?_, ?_, ?_, ?_⟩
  · rw [exec_of_listening_unchecked hl rfl rfl, encode_tperm]
  · exact exec_of_listening_unchecked hl rfl rfl
  · exact exec_of_listening_unchecked hl rfl rfl
  · exact exec_of_listening_unchecked hl rfl rfl

end Sys2Proof.Proofs

/-! PROOFS. The family 60_exceptions.md. First the layer its statements share: which command each error code comes from, and the issue of a
command as the three answers of R232 one by one. Then what a step can raise, and a write to STATUS. Then the statements. -/

namespace Sys2Proof.Proofs

open Sys2Proof.Machine Sys2Proof.Laws Sys2Proof.Claims

/-! ### The checks of the commands and the codes they raise (R231, R235 to R237) -/

section Codes

variable {i : Instr} {s : State} {code : ErrCode}

/-- R232: every way a command's own check can reject it. -/
theorem checkOf_eq_some_cases (h : checkOf i s = some code) :
    ((∃ var, i = .init var) ∧ (code = .illegalCmd ∨ code = .sizeMismatch)) ∨
      (((∃ x, i = .gen x) ∨ i = .seek) ∧ code = .notReady ∧ s.status.ready = false) ∨
      ((∃ x, i = .gen x) ∧ code = .ctrExhausted ∧ s.status.ready = true ∧ s.ctr = lastCounter) := by
  cases i with
  | init var =>
    simp only [checkOf, initCheck] at h
    split at h
    · cases h; exact .inl ⟨⟨var, rfl⟩, .inl rfl⟩
    · split at h <;> cases h
      exact .inl ⟨⟨var, rfl⟩, .inr rfl⟩
  | gen x =>
    simp only [checkOf, genCheck] at h
    split at h
    · next hready =>
      split at h <;> cases h
      next hctr => exact .inr (.inr ⟨⟨x, rfl⟩, rfl, hready, hctr⟩)
    · next hready => cases h; exact .inr (.inl ⟨.inl ⟨x, rfl⟩, rfl, by simpa using hready⟩)
  | seek =>
    simp only [checkOf, readyCheck] at h
    split at h <;> cases h
    next hready => exact .inr (.inl ⟨.inr rfl, rfl, by simpa using hready⟩)
  | _ => cases h

/-- R235: NOT_READY is the code of GEN and SEEK alone. -/
theorem instr_of_checkOf_notReady (h : checkOf i s = some .notReady) : (∃ x, i = .gen x) ∨ i = .seek := by
  obtain ⟨-, hcode | hcode⟩ | ⟨hi, -⟩ | ⟨-, hcode, -⟩ := checkOf_eq_some_cases h
  · cases hcode
  · cases hcode
  · exact hi
  · cases hcode

/-- R162, R236: CTR_EXHAUSTED is the code of GEN alone, with a cipher at the last counter. -/
theorem gen_of_checkOf_ctrExhausted (h : checkOf i s = some .ctrExhausted) :
    (∃ x, i = .gen x) ∧ s.status.ready = true ∧ s.ctr = lastCounter := by
  obtain ⟨-, hcode | hcode⟩ | ⟨-, hcode, -⟩ | ⟨hi, -, hready, hctr⟩ := checkOf_eq_some_cases h
  · cases hcode
  · cases hcode
  · cases hcode
  · exact ⟨hi, hready, hctr⟩

theorem readyCheck_of_not_ready (hready : s.status.ready = false) : readyCheck s = some .notReady := by
  simp [readyCheck, hready]

theorem genCheck_of_not_ready (hready : s.status.ready = false) : genCheck s = some .notReady := by
  simp [genCheck, hready]

end Codes

/-! ### The issue of a word (R232, R239) -/

section Issue

variable {s : State} {i : Instr} {c : CmdWord}

/-- R239: only ZEROIZE passes the FATAL filter. -/
theorem exec_of_fatal (hp : s.pending = none) (hfatal : s.status.fatal = true) (hi : i ≠ .zeroize) : exec i s = .next s := by
  have hnot : underFatal i = false := by
    cases i with
    | zeroize => contradiction
    | _ => rfl
  rw [exec_idle i hp, hfatal, hnot]
  rfl

/-- R232: the FATAL filter on words lets the exact ZEROIZE word through, with nothing in flight. -/
theorem issue_of_fatal (hfatal : s.status.fatal = true) (c : CmdWord) :
    issue c s = if s.pending = none ∧ c = 0x00000004#32 then .next (issued c (probeBit s) s) else .next s := by
  split
  · next h =>
    obtain ⟨hp, rfl⟩ := h
    have hdecoded : issue 0x00000004#32 s = exec .zeroize s := by simp [issue, zeroizeWord, hp]; rfl
    rw [hdecoded, exec_zeroize_idle hp]
    rfl
  · next h =>
    obtain ⟨t, ht⟩ := issue_next c s
    obtain ⟨-, rfl⟩ | ⟨hlive, -⟩ | ⟨hlive, -⟩ | ⟨hp, hword, -⟩ := issue_cases ht
    · exact ht
    · simp [hfatal] at hlive
    · simp [hfatal] at hlive
    · exact absurd ⟨hp, hword hfatal⟩ h

/-- R234: a listening core reports a word it cannot decode. -/
theorem issue_of_illegal {e : Illegal} (hl : Listening s) (hc : decode c = .error e) : issue c s = .next (takeError .illegalCmd s) := by
  obtain ⟨hp, hfatal⟩ := hl
  simp [issue, hp, hfatal, hc]

/-- R142: INIT's size check, for each of the two VAR codes a word can carry (R93). -/
theorem exec_init_of_listening {var : BitVec 2} (hl : Listening s) (hvar : (Instr.init var).wellFormed = true) :
    exec (.init var) s =
      if s.keyLen ≠ (if var = 0b00#2 then 64#16 else 128#16) ∨ s.nonceLen ≠ 64#16 then .next (rejected .sizeMismatch s)
      else .next (issued (encode (.init var)) (probeBit s) s) := by
  have hcode : ∃ v : Variant, var = v.code ∧ keyBytes v = if var = 0b00#2 then 64#16 else 128#16 := by
    obtain rfl | rfl : var = 0b00#2 ∨ var = 0b01#2 := by simpa [Instr.wellFormed] using hvar
    · exact ⟨.v512, rfl, rfl⟩
    · exact ⟨.v1024, rfl, rfl⟩
  obtain ⟨v, rfl, hkey⟩ := hcode
  rw [initSizeCheck v s hl, hkey, ← ite_not]
  simp only [not_and_or]

/-- R160, R232: GEN's checks in their order, READY before the counter. -/
theorem exec_gen_of_listening (hl : Listening s) (x : Bool) :
    exec (.gen x) s =
      if s.status.ready = false then .next (rejected .notReady s)
      else if s.ctr = 0xFFFFFFFFFFFFFFFF#64 then .next (takeError .ctrExhausted s)
      else .next (issued (encode (.gen x)) s.status.token s) := by
  split
  · next hready => exact exec_of_listening_rejected (i := .gen x) hl (genCheck_of_not_ready hready)
  · next hready =>
    have hready : s.status.ready = true := by simpa using hready
    split
    · next hctr => exact exec_of_listening_rejected (i := .gen x) hl (genCheck_of_exhausted hready hctr)
    · next hctr => exact exec_of_listening_accepted (i := .gen x) hl (genCheck_of_canGenerate ⟨hready, hctr⟩)

/-- R166, R232: SEEK's one check. -/
theorem exec_seek_of_listening (hl : Listening s) :
    exec .seek s =
      if s.status.ready = false then .next (rejected .notReady s) else .next (issued (encode .seek) s.status.token s) := by
  split
  · next hready => exact exec_of_listening_rejected (i := .seek) hl (readyCheck_of_not_ready hready)
  · next hready => exact exec_of_listening_accepted (i := .seek) hl (readyCheck_of_ready (by simpa using hready))

end Issue

/-! ### What makes the core fatal (R162, R236) -/

section Fatal

variable {s t : State} {i : Instr} {c : CmdWord}

/-- A report sets FATAL only with the code of the exhausted counter. -/
theorem ctrExhausted_of_takeError {code : ErrCode} (hlive : s.status.fatal = false) (hset : (takeError code s).status.fatal = true) :
    code = .ctrExhausted := by
  simpa [hlive] using hset

/-- R236: of all that a command can do at its issue or its completion, only GEN's rejection at the last counter sets FATAL. -/
theorem gen_of_exec_sets_fatal (h : exec i s = .next t) (hlive : s.status.fatal = false) (hset : t.status.fatal = true) :
    s.pending = none ∧ s.status.ready = true ∧ s.ctr = lastCounter ∧ ∃ x, i = .gen x := by
  obtain ⟨p, -, rfl⟩ | ⟨-, hfatal, -⟩ | ⟨hp, -, code, hcheck, rfl⟩ | ⟨-, -, -, rfl⟩ := exec_cases h
  · obtain ⟨-, -, -, -, hkeep⟩ := effectOf_constants i p.backend s
    simp [hkeep, hlive] at hset
  · simp [hlive] at hfatal
  · obtain rfl := ctrExhausted_of_takeError hlive hset
    obtain ⟨hgen, hready, hctr⟩ := gen_of_checkOf_ctrExhausted hcheck
    exact ⟨hp, hready, hctr, hgen⟩
  · simp [hlive] at hset

theorem gen_of_issue_sets_fatal (h : issue c s = .next t) (hlive : s.status.fatal = false) (hset : t.status.fatal = true) :
    s.pending = none ∧ s.status.ready = true ∧ s.ctr = lastCounter ∧ ∃ x, decode c = .ok (.gen x) := by
  obtain ⟨hfatal, -⟩ | ⟨-, -, rfl⟩ | ⟨-, -, -, rfl⟩ | ⟨-, -, i, hi, hexec⟩ := issue_cases h
  · simp [hlive] at hfatal
  · cases ctrExhausted_of_takeError hlive hset
  · cases ctrExhausted_of_takeError hlive hset
  · obtain ⟨hp, hready, hctr, x, rfl⟩ := gen_of_exec_sets_fatal hexec hlive hset
    exact ⟨hp, hready, hctr, x, hi⟩

/-- R67, R236: of the host's writes only one to CMD issues a command, and no other sets FATAL. -/
theorem gen_of_memWrite_sets_fatal {off : Offset} {size : Nat} {v : Word} (h : memWrite off size v s = .next t)
    (hlive : s.status.fatal = false) (hset : t.status.fatal = true) :
    s.pending = none ∧ s.status.ready = true ∧ s.ctr = lastCounter ∧ regAt off = .cmd ∧ ∃ x, decode (v.setWidth 32) = .ok (.gen x) := by
  obtain rfl | ⟨hr, hissue⟩ | ⟨-, rfl⟩ | ⟨-, rfl⟩ | ⟨-, rfl⟩ := memWrite_cases h
  · simp [hlive] at hset
  · obtain ⟨hp, hready, hctr, hgen⟩ := gen_of_issue_sets_fatal hissue hlive hset
    exact ⟨hp, hready, hctr, hr, hgen⟩
  · simp [hlive] at hset
  · simp [hlive] at hset
  · simp [hlive] at hset

end Fatal

/-! ### STATUS and CTRL as the host reaches them (R29, R241, R244) -/

/-- R67, R244: a write that reaches STATUS's low half is `status_write` of its value. -/
theorem memWrite_status {off : Offset} {size : Nat} (hr : regAt off = .status) (hlow : reachesLow off size = true) (v : Word) (s : State) :
    memWrite off size v s = .next (statusWrite v s) := by
  simp only [memWrite, hr, hlow, if_true, statusWrite_setWidth]

/-- R244: what FATAL leaves of a STATUS write. -/
theorem statusWrite_of_fatal {s : State} (hfatal : s.status.fatal = true) (v : Word) :
    statusWrite v s = { s with status := { s.status with done := if v.getLsbD 2 then false else s.status.done } } := by
  simp [statusWrite, Status.written, hfatal]

theorem memRead_ctrl (s : State) : memRead 0x010#10 8 s = s.ctrl.setWidth 64 := rfl

/-! ### The statements -/

/-- Settles O4: the FATAL filter, BUSY and decoding come first; a listening core then runs the decoded command, whose word is the one
written, through that command's own checks. -/
theorem issueChecksInOrder : Obligations.IssueChecksInOrder := by
  intro c s
  split
  · next hfatal => exact issue_of_fatal hfatal c
  next hfatal =>
  have hfatal : s.status.fatal = false := by simpa using hfatal
  split
  · next hbusy =>
    obtain ⟨p, hp⟩ := Option.ne_none_iff_exists'.mp hbusy
    exact issue_of_busy hp hfatal c
  next hidle =>
  have hl : Listening s := ⟨not_not.mp hidle, hfatal⟩
  cases hc : decode c with
  | error e => exact issue_of_illegal hl hc
  | ok i =>
    rw [issue_of_listening hl hc]
    obtain ⟨hwf, rfl⟩ := decode_eq_ok_iff.mp hc
    cases i with
    | init var => exact exec_init_of_listening hl hwf
    | gen x => exact exec_gen_of_listening hl x
    | seek => exact exec_seek_of_listening hl
    | _ => exact exec_of_listening_unchecked hl rfl rfl

/-- Settles O6: READY is the first check of GEN and the only one of SEEK; a completion, the FATAL filter and an acceptance write no code,
and no other command's check raises this one. -/
theorem notReadyExactlyForGenAndSeek : Obligations.NotReadyExactlyForGenAndSeek := by
  refine ⟨fun x s hl hready => ⟨?_, ?_⟩, fun i s t hseek hgen hexec hcode => ?_⟩
  · rw [exec_gen_of_listening hl, if_pos hready]
  · rw [exec_seek_of_listening hl, if_pos hready]
  · obtain ⟨p, -, rfl⟩ | ⟨-, -, -, rfl⟩ | ⟨-, -, code, hcheck, rfl⟩ | ⟨-, -, -, rfl⟩ := exec_cases hexec
    · obtain ⟨-, -, -, hkeep, -⟩ := effectOf_constants i p.backend s
      simpa [hkeep] using hcode
    · exact hcode
    · obtain rfl : code = .notReady := by simpa using hcode
      obtain ⟨x, rfl⟩ | rfl := instr_of_checkOf_notReady hcheck
      · exact absurd rfl (hgen x)
      · exact absurd rfl hseek
    · simpa using hcode

/-- Settles O25: completions, reset and the steps of the host's own fields leave FATAL at 0, and of the host's writes only a GEN's sets it. -/
theorem onlyExhaustedGenSetsFatal : Obligations.OnlyExhaustedGenSetsFatal := by
  intro s t hs hlive hset
  obtain ⟨p, i, -, -, -, -, -, rfl⟩ | ⟨-, -, rfl⟩ | ⟨off, size, v, -, -, ha, -, hw⟩ | ⟨-, -, host, responses, rfl, -⟩ := step_cases hs
  · obtain ⟨-, -, -, -, hkeep⟩ := effectOf_constants i p.backend s
    simp [hkeep, hlive] at hset
  · cases hset
  · obtain ⟨hp, hready, hctr, hr, x, hx⟩ := gen_of_memWrite_sets_fatal hw hlive hset
    exact ⟨hp, hready, hctr, off, size, v, x, ha, hr, hx⟩
  · simp [hlive] at hset

/-- Settles O5: the FATAL filter at a command's issue, and what FATAL leaves of `status_write`. -/
theorem fatalFiltersCommands : Obligations.FatalFiltersCommands :=
  ⟨fun _ _ hp hfatal hi => exec_of_fatal hp hfatal hi, fun v s hfatal => by rw [memWrite_status rfl rfl, statusWrite_of_fatal hfatal]⟩

/-- Settles O37: both access sizes at 0x020 reach STATUS's low half, and the write is `status_write`. -/
theorem statusWriteClears : Obligations.StatusWriteClears := by
  intro v s size hsize
  have hlow : reachesLow 0x020#10 size = true := by
    obtain rfl | rfl : size = 8 ∨ size = 4 := by simpa using hsize
    · rfl
    · rfl
  rw [memWrite_status rfl hlow]
  simp [statusWrite, Status.written]

/-- Settles O41: the bits of STATUS and CTRL that the host reads are the fields `irq` is made of. -/
theorem irqFromReadableBits : Obligations.IrqFromReadableBits := by
  refine ⟨fun s => ?_, rfl⟩
  rw [memRead_status, memRead_ctrl, statusWord_bit_done, statusWord_bit_err, BitVec.getLsbD_setWidth, BitVec.getLsbD_setWidth]
  rfl

end Sys2Proof.Proofs

/-! PROOFS. The family 70_reset_and_hazards.md. First the layer its statements share: what a step of either agent does to the host's moves
and to the turns, the sequencer's turn with a command in flight, and what the latency depends on. Then the statements. -/

namespace Sys2Proof.Proofs

open Sys2Proof.Machine Sys2Proof.Laws Sys2Proof.Claims

/-! ### The host's moves and the turns over a step (R270, R282) -/

section Turns

variable {s t : State} {p : Pending}

/-- No completion touches the host's moves. -/
theorem effectOf_host (i : Instr) (b : Bool) (s : State) : (effectOf i b s).host = s.host := by
  cases i with
  | init var =>
    obtain h | ⟨v, h⟩ := initEffect_cases var b s
    all_goals simp [effectOf, h]
  | _ => rfl

@[simp] theorem writeOperand_host (r : Reg) (w : Word) (s : State) : (writeOperand r w s).host = s.host := by cases r <;> rfl
@[simp] theorem writeOperand_turns (r : Reg) (w : Word) (s : State) : (writeOperand r w s).turns = s.turns := by cases r <;> rfl

theorem memWrite_host_turns {off : Offset} {size : Nat} {v : Word} (h : memWrite off size v s = .next t) :
    t.host = s.host ∧ t.turns = s.turns := by
  obtain ⟨-, w, rfl⟩ | ⟨_, _, _, rfl, -⟩ := memWrite_frame h
  · exact ⟨writeOperand_host _ _ _, writeOperand_turns _ _ _⟩
  · exact ⟨rfl, rfl⟩

/-- A step takes one turn, and gives the host no move that it did not have: a `wait` only puts itself back (R102). -/
theorem step_takes_turn (hs : step s = .next t) : t.turns = s.turns.tail ∧ ∀ op ∈ t.host, op ∈ s.host := by
  obtain ⟨p, i, -, -, -, -, -, rfl⟩ | ⟨-, -, rfl⟩ | ⟨off, size, v, -, -, -, -, hw⟩ | ⟨-, -, host, responses, rfl, hsub⟩ := step_cases hs
  · exact ⟨rfl, fun op hop => by rwa [finish_host, effectOf_host] at hop⟩
  · exact ⟨rfl, fun op hop => List.mem_of_mem_tail hop⟩
  · obtain ⟨hhost, hturns⟩ := memWrite_host_turns hw
    exact ⟨hturns, fun op hop => List.mem_of_mem_tail (by rwa [hhost] at hop)⟩
  · exact ⟨rfl, hsub⟩

theorem mover_of_cons {turn : Turn} {rest : List Turn} (h : s.turns = turn :: rest) : mover s = turn := by
  simp only [mover, h]

/-- R272: the sequencer's turn completes the command in flight, whatever it is. -/
theorem step_core_completes (hinv : Inv s) (hp : s.pending = some p) (hm : mover s = .core) :
    ∃ t, step s = .next t ∧ t.pending = none ∧ t.status.done = true := by
  obtain ⟨t, hs⟩ := stepNeverStops s hinv
  obtain ⟨hpend, -⟩ := hinv
  obtain ⟨-, -, i, hi, -⟩ := hpend p hp
  have hc : completes s = some i := by simp [completes, hm, hp, hi]
  obtain ⟨q, -, -, rfl⟩ := step_of_completes hc hs
  exact ⟨_, hs, rfl, rfl⟩

/-- R72, R238: a turn of the host's that is no reset leaves the command in flight. -/
theorem step_host_keeps_pending (hinv : Inv s) (hp : s.pending = some p) (hm : mover s = .host) (ha : hostActs s ≠ some .reset) :
    ∃ t, step s = .next t ∧ t.pending = some p := by
  obtain ⟨t, hs⟩ := stepNeverStops s hinv
  obtain ⟨_, _, _, _, _, rfl, -⟩ := step_host_inFlight hs hp hm ha
  exact ⟨_, hs, hp⟩

/-- The host resets the core only where a reset is among its moves. -/
theorem hostActs_ne_reset (hnone : ∀ op ∈ s.host, op ≠ .reset) : hostActs s ≠ some .reset := by
  intro ha
  obtain ⟨-, hhost⟩ := hostActs_eq_some ha
  exact hnone .reset (hhost ▸ List.mem_cons_self) rfl

theorem run_succ_of_step (hs : step s = .next t) (k : Nat) : Host.Core.run core (k + 1) s = Host.Core.run core k t := by
  have hstep : core.step s = .next t := hs
  simp only [Host.Core.run, hstep]

end Turns

/-! ### What the latency depends on (R273) -/

section Latency

variable {s t : State}

theorem latKey_of_variant_eq (h : s.status.variant = t.status.variant) (i : Instr) (b : Bool) : latKey i b s = latKey i b t := by
  cases i with
  | gen x => simp only [latKey, h]
  | _ => rfl

/-- GEN alone takes its variant from STATUS, every other command from its word. -/
theorem latKey_of_ne_gen {i : Instr} (h : ∀ x, i ≠ .gen x) (b : Bool) (s t : State) : latKey i b s = latKey i b t := by
  cases i with
  | gen x => exact absurd rfl (h x)
  | _ => rfl

/-- X is no part of what GEN's latency may depend on. -/
theorem latKey_gen (x y b : Bool) (s : State) : latKey (.gen x) b s = latKey (.gen y) b s := rfl

theorem latency_of_latKey_eq {i j : Instr} {b c : Bool} (h : latKey i b s = latKey j c t) : latency i b s = latency j c t := by
  simp only [latency, h]

end Latency

/-! ### The statements -/

/-- Settles O27, by induction on the number of host turns: each leaves the command in flight, the invariant and a host without a reset, and
the sequencer's turn after them is the completion. As the statement has it the turns are the model's own form (notes/assumptions/1.md). -/
theorem acceptedCommandCompletes : Obligations.AcceptedCommandCompletes := by
  intro n
  induction n with
  | zero =>
    intro s p rest hinv hp hturns _
    obtain ⟨t, hs, hnone, hdone⟩ := step_core_completes hinv hp (mover_of_cons hturns)
    obtain ⟨htail, -⟩ := step_takes_turn hs
    exact ⟨t, run_succ_of_step hs 0, hnone, hdone, by simpa [hturns] using htail⟩
  | succ n ih =>
    intro s p rest hinv hp hturns hhost
    obtain ⟨t, hs, hpt⟩ := step_host_keeps_pending hinv hp (mover_of_cons hturns) (hostActs_ne_reset hhost)
    obtain ⟨htail, hsub⟩ := step_takes_turn hs
    have hrest : t.turns = List.replicate n .host ++ .core :: rest := by rw [htail, hturns]; rfl
    rw [run_succ_of_step hs]
    exact ih t p rest (stepKeepsInvariant s t hinv hs) hpt hrest fun op hop => hhost op (hsub op hop)

/-- Settles O51: the latency is LAT of the key, and 1 more than a natural number. -/
theorem latencyIsDataIndependent : Obligations.LatencyIsDataIndependent :=
  ⟨fun i b _ _ h => latency_of_latKey_eq (latKey_of_variant_eq h i b), fun _ b s t h => latency_of_latKey_eq (latKey_of_ne_gen h b s t),
    fun x y b s => latency_of_latKey_eq (latKey_gen x y b s), fun _ _ _ => Nat.le_add_left _ _⟩

end Sys2Proof.Proofs
